-- ==== Sys2Proof/Word.lean ====
section
/-! DEFINITION. The widths of the three data formats (00_scope.md R6): everything the hardware handles is a byte or less. -/

namespace Sys2Proof

/-- Format RAW8 (R35): one raw tape byte, bit 0 the least significant. -/
abbrev RawByte := BitVec 8

/-- Format FLEX6 (R37): a canonical Flexowriter code, 0 to 63. -/
abbrev FlexCode := BitVec 6

/-- Format ASC8 (R39): an emitted byte, and the width of a table entry (R20). -/
abbrev AsciiByte := BitVec 8

end Sys2Proof
end

