-- ==== Sys2Proof/Config.lean ====
section
/-! DEFINITION. What an implementation fixes and the spec leaves open: opaque constants, of which nothing can be proved. -/

namespace Sys2Proof

/-- The byte that stands on `asc_out` while `asc_valid` = 0: any value, which no claim may read
(93_implementation_defined.md U2, 92_eei_decisions.md D5). It is applied to a count of steps, so that it is a
fresh value at every step. Log entry 8. -/
opaque Config.idleAscOut : Nat → AsciiByte

/-- LATENCY_U, the time from `u_raw` to `u_flex`: an OPEN parameter that no rule reads (R6, R167, D9). Log entry 12. -/
opaque Config.latencyU : Nat

/-- LATENCY_D, the time from a presented code to `asc_valid`, `asc_out` and the new `is_cap`: an OPEN parameter
that no rule reads (R6, R167, D9). Log entry 12. -/
opaque Config.latencyD : Nat

end Sys2Proof
end

