-- ==== Sys2Proof/Syntax.lean ====
section
/-! DEFINITION. The operations of the core as syntax: one constructor per row of opcode_table.json (30_encoding.md R41,
92_eei_decisions.md D16), the port words that carry them, and the lines of a tape listing. -/

namespace Sys2Proof

/-- One operation of U or D. The 64 codes carry no operand: the code is the whole symbol (R37). `STEP` has no row in
the table: it is `unscr` followed by one of the codes (R130, `Machine.execStep`). -/
inductive Instr where
  /-- `UNSCR(raw)`, sub-block U: any raw byte (R50). -/
  | unscr (raw : RawByte)
  /-- `RESET`, the control wire `rst`; not a symbol of the tape (R47, R61). -/
  | reset
  /-- `NUL`, `DECODE(0)`: the null code (R62). -/
  | nul
  /-- `CHR01`, `DECODE(1)`: a letter code (R80). -/
  | chr01
  /-- `CHR02`, `DECODE(2)`: a figure code (R106). -/
  | chr02
  /-- `CHR03`, `DECODE(3)`: a caseless code (R121). -/
  | chr03
  /-- `LC`, `DECODE(4)`: shift to lowercase (R63). -/
  | lc
  /-- `CHR05`, `DECODE(5)`: a letter code (R81). -/
  | chr05
  /-- `CHR06`, `DECODE(6)`: a letter code (R82). -/
  | chr06
  /-- `CHR07`, `DECODE(7)`: a figure code (R107). -/
  | chr07
  /-- `UC`, `DECODE(8)`: shift to capital (R64). -/
  | uc
  /-- `CHR09`, `DECODE(9)`: a letter code (R83). -/
  | chr09
  /-- `CHR10`, `DECODE(10)`: a figure code (R108). -/
  | chr10
  /-- `CHR11`, `DECODE(11)`: a figure code (R109). -/
  | chr11
  /-- `CHR12`, `DECODE(12)`: a caseless code (R122). -/
  | chr12
  /-- `CHR13`, `DECODE(13)`: a letter code (R84). -/
  | chr13
  /-- `CHR14`, `DECODE(14)`: a figure code (R110). -/
  | chr14
  /-- `CHR15`, `DECODE(15)`: a figure code (R111). -/
  | chr15
  /-- `CHR16`, `DECODE(16)`: a caseless code (R123). -/
  | chr16
  /-- `CHR17`, `DECODE(17)`: a letter code (R85). -/
  | chr17
  /-- `CHR18`, `DECODE(18)`: a figure code (R112). -/
  | chr18
  /-- `CHR19`, `DECODE(19)`: a figure code (R113). -/
  | chr19
  /-- `CHR20`, `DECODE(20)`: a caseless code (R124). -/
  | chr20
  /-- `CHR21`, `DECODE(21)`: a letter code (R86). -/
  | chr21
  /-- `CHR22`, `DECODE(22)`: a figure code (R114). -/
  | chr22
  /-- `CHR23`, `DECODE(23)`: a figure code (R115). -/
  | chr23
  /-- `CHR24`, `DECODE(24)`: a caseless code (R125). -/
  | chr24
  /-- `CHR25`, `DECODE(25)`: a letter code (R87). -/
  | chr25
  /-- `CHR26`, `DECODE(26)`: a figure code (R116). -/
  | chr26
  /-- `CHR27`, `DECODE(27)`: a figure code (R117). -/
  | chr27
  /-- `VOID28`, `DECODE(28)`: a void code (R65). -/
  | void28
  /-- `CHR29`, `DECODE(29)`: a letter code (R88). -/
  | chr29
  /-- `CHR30`, `DECODE(30)`: a figure code (R118). -/
  | chr30
  /-- `CHR31`, `DECODE(31)`: a letter code (R89). -/
  | chr31
  /-- `CHR32`, `DECODE(32)`: a caseless code (R126). -/
  | chr32
  /-- `CHR33`, `DECODE(33)`: a letter code (R90). -/
  | chr33
  /-- `CHR34`, `DECODE(34)`: a figure code (R119). -/
  | chr34
  /-- `CHR35`, `DECODE(35)`: a letter code (R91). -/
  | chr35
  /-- `VOID36`, `DECODE(36)`: a void code (R66). -/
  | void36
  /-- `CHR37`, `DECODE(37)`: a letter code (R92). -/
  | chr37
  /-- `CHR38`, `DECODE(38)`: a figure code (R120). -/
  | chr38
  /-- `CHR39`, `DECODE(39)`: a letter code (R93). -/
  | chr39
  /-- `VOID40`, `DECODE(40)`: a void code (R67). -/
  | void40
  /-- `CHR41`, `DECODE(41)`: a letter code (R94). -/
  | chr41
  /-- `CHR42`, `DECODE(42)`: a letter code (R95). -/
  | chr42
  /-- `VOID43`, `DECODE(43)`: a void code (R68). -/
  | void43
  /-- `VOID44`, `DECODE(44)`: a void code (R69). -/
  | void44
  /-- `CHR45`, `DECODE(45)`: a letter code (R96). -/
  | chr45
  /-- `CHR46`, `DECODE(46)`: a letter code (R97). -/
  | chr46
  /-- `VOID47`, `DECODE(47)`: a void code (R70). -/
  | void47
  /-- `VOID48`, `DECODE(48)`: a void code (R71). -/
  | void48
  /-- `CHR49`, `DECODE(49)`: a letter code (R98). -/
  | chr49
  /-- `CHR50`, `DECODE(50)`: a letter code (R99). -/
  | chr50
  /-- `VOID51`, `DECODE(51)`: a void code (R72). -/
  | void51
  /-- `VOID52`, `DECODE(52)`: a void code (R73). -/
  | void52
  /-- `CHR53`, `DECODE(53)`: a letter code (R100). -/
  | chr53
  /-- `CHR54`, `DECODE(54)`: a letter code (R101). -/
  | chr54
  /-- `VOID55`, `DECODE(55)`: a void code (R74). -/
  | void55
  /-- `VOID56`, `DECODE(56)`: a void code (R75). -/
  | void56
  /-- `CHR57`, `DECODE(57)`: a letter code (R102). -/
  | chr57
  /-- `CHR58`, `DECODE(58)`: a letter code (R103). -/
  | chr58
  /-- `VOID59`, `DECODE(59)`: a void code (R76). -/
  | void59
  /-- `VOID60`, `DECODE(60)`: a void code (R77). -/
  | void60
  /-- `CHR61`, `DECODE(61)`: a letter code (R104). -/
  | chr61
  /-- `CHR62`, `DECODE(62)`: a letter code (R105). -/
  | chr62
  /-- `CHR63`, `DECODE(63)`: a caseless code (R127). -/
  | chr63
  deriving DecidableEq, Repr

/-- A word as it stands on one of the core's input ports. The three formats are told apart by the port, not by their
bits (R35, R37, R47, R48): the same eight bits mean different things on `u_raw` and on `code_in`. -/
inductive PortWord where
  /-- Format CTRL: the one-bit wire `rst`, active at 1 (R47). -/
  | ctrl (rst : BitVec 1)
  /-- Format RAW8: the byte on `u_raw`, given to U alone (R35). -/
  | raw8 (raw : RawByte)
  /-- Format FLEX6 carried in a byte, which must be the zero-extension of a code (R27, R37). -/
  | flex6 (byte : BitVec 8)
  deriving DecidableEq, Repr

/-- Why a port word is no operation. -/
inductive DecodeError where
  /-- The wire `rst` is at 0, so it asks for nothing (R48). -/
  | rstInactive
  /-- A byte above 63 is not a FlexCode; it is refused, never masked (D4, R43, R135). -/
  | notAFlexCode (byte : BitVec 8)
  deriving DecidableEq, Repr

/-- One line of a tape listing (R46). -/
inductive ListingLine where
  /-- A symbol, named by its FlexCode. -/
  | symbol (c : FlexCode)
  /-- `.raw 0xNN`: an arbitrary raw byte. -/
  | raw (byte : RawByte)
  /-- `.reset`: the operation `RESET`, an action of the host and not a symbol. -/
  | reset
  deriving DecidableEq, Repr

end Sys2Proof
end

