-- ==== Sys2Proof/WellFormed.lean ====
section
/-! DEFINITION. Which port words are operations. Every term of `Instr` is well formed by its type: `UNSCR` takes any of
the 256 bytes (R35) and no other operation has an operand. What can be ill formed is a word on a port. -/

namespace Sys2Proof

/-- The control wire asks for `RESET` only at 1 (R47); every raw byte is valid (R35); a byte is a FlexCode only up to
63 (R37, D4). -/
def PortWord.wf : PortWord → Bool
  | .ctrl rst => rst == 1#1
  | .raw8 _ => true
  | .flex6 byte => decide (byte.toNat ≤ 63)

end Sys2Proof
end

