-- ==== Sys2Proof/Decode.lean ====
section
/-! DEFINITION. Decoding a port word to an operation, total and rejecting by name, and the encoder (30_encoding.md R35,
R37, R41, R47; opcode_table.json). The code map is total: each of the 64 codes has exactly one row (R41, R43). -/

namespace Sys2Proof

/-- A FlexCode carried in a byte: zero-extended, bits 7 and 6 are 0 (R27). -/
def zext8 (c : FlexCode) : BitVec 8 := c.setWidth 8

/-- The code map of R41 in code order, eight codes a line. -/
def codeTable : List Instr :=
  [.nul, .chr01, .chr02, .chr03, .lc, .chr05, .chr06, .chr07] ++
  [.uc, .chr09, .chr10, .chr11, .chr12, .chr13, .chr14, .chr15] ++
  [.chr16, .chr17, .chr18, .chr19, .chr20, .chr21, .chr22, .chr23] ++
  [.chr24, .chr25, .chr26, .chr27, .void28, .chr29, .chr30, .chr31] ++
  [.chr32, .chr33, .chr34, .chr35, .void36, .chr37, .chr38, .chr39] ++
  [.void40, .chr41, .chr42, .void43, .void44, .chr45, .chr46, .void47] ++
  [.void48, .chr49, .chr50, .void51, .void52, .chr53, .chr54, .void55] ++
  [.void56, .chr57, .chr58, .void59, .void60, .chr61, .chr62, .chr63]

theorem codeTable_length : codeTable.length = 64 := rfl

/-- The operation `DECODE(c)` is, for each of the 64 codes (R41). -/
def instrOfCode (c : FlexCode) : Instr :=
  codeTable[c.toNat]'(by rw [codeTable_length]; exact c.isLt)

/-- Read the operation a port word asks for. -/
def decode : PortWord → Except DecodeError Instr
  | .ctrl rst => if rst = 1#1 then .ok .reset else .error .rstInactive
  | .raw8 raw => .ok (.unscr raw)
  | .flex6 byte =>
      if byte.toNat ≤ 63 then .ok (instrOfCode (byte.setWidth 6)) else .error (.notAFlexCode byte)

/-- The port word of each operation, written out from the encodings of the opcode table (R41, R47). -/
def encode : Instr → PortWord
  | .unscr raw => .raw8 raw
  | .reset => .ctrl 0b1#1
  | .nul => .flex6 0b00000000#8
  | .chr01 => .flex6 0b00000001#8
  | .chr02 => .flex6 0b00000010#8
  | .chr03 => .flex6 0b00000011#8
  | .lc => .flex6 0b00000100#8
  | .chr05 => .flex6 0b00000101#8
  | .chr06 => .flex6 0b00000110#8
  | .chr07 => .flex6 0b00000111#8
  | .uc => .flex6 0b00001000#8
  | .chr09 => .flex6 0b00001001#8
  | .chr10 => .flex6 0b00001010#8
  | .chr11 => .flex6 0b00001011#8
  | .chr12 => .flex6 0b00001100#8
  | .chr13 => .flex6 0b00001101#8
  | .chr14 => .flex6 0b00001110#8
  | .chr15 => .flex6 0b00001111#8
  | .chr16 => .flex6 0b00010000#8
  | .chr17 => .flex6 0b00010001#8
  | .chr18 => .flex6 0b00010010#8
  | .chr19 => .flex6 0b00010011#8
  | .chr20 => .flex6 0b00010100#8
  | .chr21 => .flex6 0b00010101#8
  | .chr22 => .flex6 0b00010110#8
  | .chr23 => .flex6 0b00010111#8
  | .chr24 => .flex6 0b00011000#8
  | .chr25 => .flex6 0b00011001#8
  | .chr26 => .flex6 0b00011010#8
  | .chr27 => .flex6 0b00011011#8
  | .void28 => .flex6 0b00011100#8
  | .chr29 => .flex6 0b00011101#8
  | .chr30 => .flex6 0b00011110#8
  | .chr31 => .flex6 0b00011111#8
  | .chr32 => .flex6 0b00100000#8
  | .chr33 => .flex6 0b00100001#8
  | .chr34 => .flex6 0b00100010#8
  | .chr35 => .flex6 0b00100011#8
  | .void36 => .flex6 0b00100100#8
  | .chr37 => .flex6 0b00100101#8
  | .chr38 => .flex6 0b00100110#8
  | .chr39 => .flex6 0b00100111#8
  | .void40 => .flex6 0b00101000#8
  | .chr41 => .flex6 0b00101001#8
  | .chr42 => .flex6 0b00101010#8
  | .void43 => .flex6 0b00101011#8
  | .void44 => .flex6 0b00101100#8
  | .chr45 => .flex6 0b00101101#8
  | .chr46 => .flex6 0b00101110#8
  | .void47 => .flex6 0b00101111#8
  | .void48 => .flex6 0b00110000#8
  | .chr49 => .flex6 0b00110001#8
  | .chr50 => .flex6 0b00110010#8
  | .void51 => .flex6 0b00110011#8
  | .void52 => .flex6 0b00110100#8
  | .chr53 => .flex6 0b00110101#8
  | .chr54 => .flex6 0b00110110#8
  | .void55 => .flex6 0b00110111#8
  | .void56 => .flex6 0b00111000#8
  | .chr57 => .flex6 0b00111001#8
  | .chr58 => .flex6 0b00111010#8
  | .void59 => .flex6 0b00111011#8
  | .void60 => .flex6 0b00111100#8
  | .chr61 => .flex6 0b00111101#8
  | .chr62 => .flex6 0b00111110#8
  | .chr63 => .flex6 0b00111111#8

/-- The names this spec gives the operations (R46, D7). -/
def mnemonic : Instr → String
  | .unscr _ => "UNSCR"
  | .reset => "RESET"
  | .nul => "NUL"
  | .chr01 => "CHR01"
  | .chr02 => "CHR02"
  | .chr03 => "CHR03"
  | .lc => "LC"
  | .chr05 => "CHR05"
  | .chr06 => "CHR06"
  | .chr07 => "CHR07"
  | .uc => "UC"
  | .chr09 => "CHR09"
  | .chr10 => "CHR10"
  | .chr11 => "CHR11"
  | .chr12 => "CHR12"
  | .chr13 => "CHR13"
  | .chr14 => "CHR14"
  | .chr15 => "CHR15"
  | .chr16 => "CHR16"
  | .chr17 => "CHR17"
  | .chr18 => "CHR18"
  | .chr19 => "CHR19"
  | .chr20 => "CHR20"
  | .chr21 => "CHR21"
  | .chr22 => "CHR22"
  | .chr23 => "CHR23"
  | .chr24 => "CHR24"
  | .chr25 => "CHR25"
  | .chr26 => "CHR26"
  | .chr27 => "CHR27"
  | .void28 => "VOID28"
  | .chr29 => "CHR29"
  | .chr30 => "CHR30"
  | .chr31 => "CHR31"
  | .chr32 => "CHR32"
  | .chr33 => "CHR33"
  | .chr34 => "CHR34"
  | .chr35 => "CHR35"
  | .void36 => "VOID36"
  | .chr37 => "CHR37"
  | .chr38 => "CHR38"
  | .chr39 => "CHR39"
  | .void40 => "VOID40"
  | .chr41 => "CHR41"
  | .chr42 => "CHR42"
  | .void43 => "VOID43"
  | .void44 => "VOID44"
  | .chr45 => "CHR45"
  | .chr46 => "CHR46"
  | .void47 => "VOID47"
  | .void48 => "VOID48"
  | .chr49 => "CHR49"
  | .chr50 => "CHR50"
  | .void51 => "VOID51"
  | .void52 => "VOID52"
  | .chr53 => "CHR53"
  | .chr54 => "CHR54"
  | .void55 => "VOID55"
  | .void56 => "VOID56"
  | .chr57 => "CHR57"
  | .chr58 => "CHR58"
  | .void59 => "VOID59"
  | .void60 => "VOID60"
  | .chr61 => "CHR61"
  | .chr62 => "CHR62"
  | .chr63 => "CHR63"

/-- The port on which a bare word of the opcode table is read. A table word names no port, and every row fits one byte,
so the reading is this model's own (log entry 4): a one-bit word is the wire `rst`; a byte up to 63 is a FlexCode;
a byte above 63 cannot be a FlexCode (D4) and is the only other eight-bit format, a raw byte. Words longer than a byte
give their first byte, which is the longest symbol there is (R45). -/
def tableWord (nbits w : Nat) : PortWord :=
  if nbits ≤ 1 then .ctrl (BitVec.ofNat 1 w)
  else
    let byte := BitVec.ofNat 8 (w % 2 ^ nbits)
    if byte.toNat ≤ 63 then .flex6 byte else .raw8 byte

/-- The operation the decoder reads from a bare word of the opcode table. -/
def decodeTableWord (nbits w : Nat) : Option Instr :=
  match decode (tableWord nbits w) with
  | .ok i => some i
  | .error _ => none

end Sys2Proof
end

