-- ==== Sys2Proof/Machine/Operands.lean ====
section
/-! DEFINITION. Operand assembly: the unscrambling permutation of U in the three forms the spec gives (40_unscrambler.md
R50, R51, R52; D10), its inverse, the channel names of a FlexCode (R7) and the tracks of a tape row (R36). -/

namespace Sys2Proof.Machine

/-- `UNSCR`, the source's three steps, bit-exact (R50): shift left in a byte, carry bit 6 of the SHIFTED value into
bit 0 (90_conflicts.md C1), keep the low six bits. -/
def unscr (raw : RawByte) : FlexCode :=
  let tmp := raw <<< 1
  let tmp := if tmp &&& 0x40#8 ≠ 0#8 then tmp ||| 0x01#8 else tmp
  (tmp &&& 0x3F#8).setWidth 6

/-- `rotl6(v)` = `{v[4:0], v[5]}` (R7). -/
def rotl6 (v : FlexCode) : FlexCode := v.extractLsb' 0 5 ++ v.extractLsb' 5 1

/-- `rotr6(v)` = `{v[0], v[5:1]}`, the inverse of `rotl6` (R7). -/
def rotr6 (v : FlexCode) : FlexCode := v.extractLsb' 0 1 ++ v.extractLsb' 1 5

/-- The wiring of U: `rotl6(raw[5:0])` (R40, R51). -/
def unscrWiring (raw : RawByte) : FlexCode := rotl6 (raw.setWidth 6)

/-- The canonical raw byte of a code, bits 7 and 6 zero (R42, R46). -/
def canonicalRaw (c : FlexCode) : RawByte := zext8 (rotr6 c)

/-- The four raw bytes U maps to a code (R54). -/
def preimages (c : FlexCode) : List RawByte :=
  [canonicalRaw c, canonicalRaw c + 0x40#8, canonicalRaw c + 0x80#8, canonicalRaw c + 0xC0#8]

/-- U as the table of R52: one list per high nibble of the raw byte, sixteen entries by the low nibble. -/
def unscrTable : List (List FlexCode) :=
  [[0x00, 0x02, 0x04, 0x06, 0x08, 0x0A, 0x0C, 0x0E, 0x10, 0x12, 0x14, 0x16, 0x18, 0x1A, 0x1C, 0x1E],
   [0x20, 0x22, 0x24, 0x26, 0x28, 0x2A, 0x2C, 0x2E, 0x30, 0x32, 0x34, 0x36, 0x38, 0x3A, 0x3C, 0x3E],
   [0x01, 0x03, 0x05, 0x07, 0x09, 0x0B, 0x0D, 0x0F, 0x11, 0x13, 0x15, 0x17, 0x19, 0x1B, 0x1D, 0x1F],
   [0x21, 0x23, 0x25, 0x27, 0x29, 0x2B, 0x2D, 0x2F, 0x31, 0x33, 0x35, 0x37, 0x39, 0x3B, 0x3D, 0x3F],
   [0x00, 0x02, 0x04, 0x06, 0x08, 0x0A, 0x0C, 0x0E, 0x10, 0x12, 0x14, 0x16, 0x18, 0x1A, 0x1C, 0x1E],
   [0x20, 0x22, 0x24, 0x26, 0x28, 0x2A, 0x2C, 0x2E, 0x30, 0x32, 0x34, 0x36, 0x38, 0x3A, 0x3C, 0x3E],
   [0x01, 0x03, 0x05, 0x07, 0x09, 0x0B, 0x0D, 0x0F, 0x11, 0x13, 0x15, 0x17, 0x19, 0x1B, 0x1D, 0x1F],
   [0x21, 0x23, 0x25, 0x27, 0x29, 0x2B, 0x2D, 0x2F, 0x31, 0x33, 0x35, 0x37, 0x39, 0x3B, 0x3D, 0x3F],
   [0x00, 0x02, 0x04, 0x06, 0x08, 0x0A, 0x0C, 0x0E, 0x10, 0x12, 0x14, 0x16, 0x18, 0x1A, 0x1C, 0x1E],
   [0x20, 0x22, 0x24, 0x26, 0x28, 0x2A, 0x2C, 0x2E, 0x30, 0x32, 0x34, 0x36, 0x38, 0x3A, 0x3C, 0x3E],
   [0x01, 0x03, 0x05, 0x07, 0x09, 0x0B, 0x0D, 0x0F, 0x11, 0x13, 0x15, 0x17, 0x19, 0x1B, 0x1D, 0x1F],
   [0x21, 0x23, 0x25, 0x27, 0x29, 0x2B, 0x2D, 0x2F, 0x31, 0x33, 0x35, 0x37, 0x39, 0x3B, 0x3D, 0x3F],
   [0x00, 0x02, 0x04, 0x06, 0x08, 0x0A, 0x0C, 0x0E, 0x10, 0x12, 0x14, 0x16, 0x18, 0x1A, 0x1C, 0x1E],
   [0x20, 0x22, 0x24, 0x26, 0x28, 0x2A, 0x2C, 0x2E, 0x30, 0x32, 0x34, 0x36, 0x38, 0x3A, 0x3C, 0x3E],
   [0x01, 0x03, 0x05, 0x07, 0x09, 0x0B, 0x0D, 0x0F, 0x11, 0x13, 0x15, 0x17, 0x19, 0x1B, 0x1D, 0x1F],
   [0x21, 0x23, 0x25, 0x27, 0x29, 0x2B, 0x2D, 0x2F, 0x31, 0x33, 0x35, 0x37, 0x39, 0x3B, 0x3D, 0x3F]]

/-- U by lookup in the table of R52; `none` would be a hole in the table. -/
def unscrLookup (raw : RawByte) : Option FlexCode :=
  match unscrTable[(raw.extractLsb' 4 4).toNat]? with
  | some row => row[(raw.extractLsb' 0 4).toNat]?
  | none => none

/-- Channel k of a code, k = 1 to 6, is its bit 6 - k: channel 1 is the most significant (R7, R37, D18). -/
def channel (k : Nat) (c : FlexCode) : Bool := c.getLsbD (6 - k)

/-- The channels of a code that are at 1, in ascending order. -/
def channelsAtOne (c : FlexCode) : List Nat := [1, 2, 3, 4, 5, 6].filter fun k => channel k c

/-- The tracks across the tape, `7 6 5 4 3 / 2 1 0`: a data track carries the raw bit named, the sprocket track
carries no bit of the byte (R36). -/
def tapeTracks : List (Option Nat) :=
  [some 7, some 6, some 5, some 4, some 3, none, some 2, some 1, some 0]

/-- One row of tape: what each track carries for a raw byte (R36). -/
def tapeRow (raw : RawByte) : List (Option Bool) := tapeTracks.map fun t => t.map fun k => raw.getLsbD k

end Sys2Proof.Machine
end

