-- ==== Sys2Proof/Machine/State.lean ====
section
/-! DEFINITION. The state of the machine: the core's one bit (10_state.md R10), its result lines (R19, R48), and beside
them the surroundings the step needs and the spec keeps out of the core (R16, R17; log entry 1). -/

namespace Sys2Proof.Machine

/-- The complete architectural state of the core: the shift flag (R10, R11). Two core states are equal exactly when
their `isCap` agree. -/
structure CoreState where
  /-- ShiftState: true = capital, false = lowercase. -/
  isCap : Bool
  deriving DecidableEq, Repr

/-- What the host drives onto the input ports in one step (R48). -/
inductive Sample where
  /-- U alone: a byte on `u_raw`. -/
  | u (uRaw : RawByte)
  /-- D alone: `rst`, `code_valid`, and the six lines `code_in`. -/
  | d (rst codeValid : Bool) (codeIn : FlexCode)
  /-- The composite: `rst`, `raw_valid`, and `u_raw`. -/
  | composite (rst rawValid : Bool) (uRaw : RawByte)
  /-- A byte-level wrapper offers D a byte as a FlexCode (D4, R135). -/
  | codeByte (byte : BitVec 8)
  deriving DecidableEq, Repr

/-- The whole machine. Only `core` is carried state of the core (R10). -/
structure State where
  /-- The core. -/
  core : CoreState
  /-- `flex_out` with `flex_valid`, and U's result: the FlexCode of the latest step, if it gave one (R48). -/
  flexOut : Option FlexCode
  /-- `asc_out` with `asc_valid`: the byte emitted by the latest step, if any (R48). -/
  ascOut : Option AsciiByte
  /-- What the host will present, the next step first (R13, R17). -/
  pending : List Sample
  /-- The FlexCode output stream, oldest first (R131, R132). -/
  flexStream : List (BitVec 8)
  /-- The ASCII output stream, oldest first (R131, R132). -/
  ascStream : List AsciiByte
  /-- The model's own count of steps, to which the free value on an idle `asc_out` is applied (log entry 8). -/
  draw : Nat
  deriving DecidableEq, Repr

/-- The core raises no exception, fault or error, for any input in any state: the set of causes is empty (R140). -/
inductive Fault
  deriving DecidableEq, Repr

/-- Why a step has no meaning. -/
inductive Refusal where
  /-- An instruction without a meaning in this model; raised by no arm (safe). -/
  | notModelled (mnemonic : String)
  /-- Raised by `present` for a byte above 63 offered as a FlexCode: refused by name, not masked (D4, R43, R135).
  Safe: the machine stops where the spec gives no behaviour. -/
  | notAFlexCode (byte : BitVec 8)
  deriving DecidableEq, Repr

/-- Power-on (R19, R155, R156): lowercase, no result pending. The surroundings are empty (log entries 8 and 11). -/
def State.reset : State where
  core := ⟨false⟩
  flexOut := none
  ascOut := none
  pending := []
  flexStream := []
  ascStream := []
  draw := 0

end Sys2Proof.Machine
end

