-- ==== Sys2Proof/Machine/Flags.lean ====
section
/-! DEFINITION. The core's only flag, `is_cap` (10_state.md R14): every read and every write of it goes through here.
There are no carry, zero, sign or overflow flags. -/

namespace Sys2Proof.Machine

/-- `is_cap <- b` (R8, R11). It sets, it does not toggle (R63, R64, 90_conflicts.md C7). -/
def State.setCap (b : Bool) (s : State) : State := { s with core := ⟨b⟩ }

/-- The read of `is_cap` (R11). -/
def CoreState.readCap (k : CoreState) : Bool := k.isCap

end Sys2Proof.Machine
end

