-- ==== Sys2Proof/Machine/Rom.lean ====
section
/-! DEFINITION. The only memory: two constant tables of 64 bytes, private to D (20_memory.md R20 to R26). They are no
state (R17, R23) and nothing writes them. The decimal lists are the source's own, dead entries included (R25, D17),
and must not be corrected (R163). -/

namespace Sys2Proof.Machine

/-- The two address spaces (R20). -/
inductive Space where
  | romCap
  | romLow
  deriving DecidableEq, Repr

/-- `ROM_CAP`, the table for the capital-shift state (R21). -/
def romCap : List AsciiByte :=
  [0, 90, 41, 32, 0, 66, 76, 95] ++
  [60, 89, 42, 61, 15, 82, 34, 58] ++
  [13, 73, 94, 63, 8, 68, 37, 93] ++
  [9, 78, 36, 91, 0, 77, 35, 86] ++
  [39, 80, 38, 79, 0, 69, 40, 88] ++
  [0, 85, 70, 0, 0, 84, 71, 0] ++
  [0, 72, 74, 0, 0, 67, 75, 0] ++
  [0, 65, 81, 0, 0, 83, 87, 127]

/-- `ROM_LOW`, the table for the lowercase-shift state (R22). -/
def romLow : List AsciiByte :=
  [0, 122, 48, 32, 0, 98, 108, 45] ++
  [62, 121, 50, 43, 15, 114, 51, 59] ++
  [13, 105, 52, 47, 8, 100, 53, 46] ++
  [9, 110, 54, 44, 0, 109, 55, 118] ++
  [39, 112, 56, 111, 0, 101, 57, 120] ++
  [0, 117, 102, 0, 0, 116, 103, 0] ++
  [0, 104, 106, 0, 0, 99, 107, 0] ++
  [0, 97, 113, 0, 0, 115, 119, 127]

theorem romCap_length : romCap.length = 64 := rfl

theorem romLow_length : romLow.length = 64 := rfl

/-- `MemRead(space, addr, 1)`: one whole entry, at the code itself, unscaled (R8, R24). Every address is populated
(R26), so no read can fail. -/
def memRead (space : Space) (addr : FlexCode) : AsciiByte :=
  match space with
  | .romCap => romCap[addr.toNat]'(by rw [romCap_length]; exact addr.isLt)
  | .romLow => romLow[addr.toNat]'(by rw [romLow_length]; exact addr.isLt)

/-- The table the shift state selects (R24). -/
def selectedSpace (k : CoreState) : Space := if k.readCap then .romCap else .romLow

/-- Both tables as one image of 128 bytes (R26, D6). -/
def romImage : List AsciiByte := romLow ++ romCap

theorem romImage_length : romImage.length = 128 := by
  rw [romImage, List.length_append, romLow_length, romCap_length]

/-- The address of an entry in the combined image: `{is_cap, c}` (R26). -/
def imageAddress (k : CoreState) (c : FlexCode) : BitVec 7 := BitVec.ofBool k.readCap ++ c

/-- A read of the combined image. -/
def imageRead (addr : BitVec 7) : AsciiByte :=
  romImage[addr.toNat]'(by rw [romImage_length]; exact addr.isLt)

end Sys2Proof.Machine
end

