-- ==== Sys2Proof/Machine/Ops.lean ====
section
/-! DEFINITION. The shared operations: handing over results (00_scope.md R8), the lookup branch and the whole of DECODE
(41_decoder_control.md R60). There is no operation for taking an exception or returning from one: the hardware has
neither (R140, R145, R146). -/

namespace Sys2Proof.Machine

/-- `emit_flex(f)`: the operation's 6-bit result is `f` (R8). -/
def State.emitFlex (f : FlexCode) (s : State) : State := { s with flexOut := some f }

/-- For `STEP` the FlexCode is also appended, as a byte, to the FlexCode stream (R8, R27, R130). -/
def State.appendFlex (f : FlexCode) (s : State) : State := { s with flexStream := s.flexStream ++ [zext8 f] }

/-- `emit_asc(v)`: the result is one byte, which enters the ASCII stream (R8, R9; log entry 6). -/
def State.emitAsc (v : AsciiByte) (s : State) : State :=
  { s with ascOut := some v, ascStream := s.ascStream ++ [v] }

/-- `no_emit`: no byte, and nothing enters the ASCII stream; not the same as emitting 0 (R8, R9). -/
def State.noEmit (s : State) : State := { s with ascOut := none }

/-- No result stands on the output lines (R157). -/
def State.clearLines (s : State) : State := { s with flexOut := none, ascOut := none }

/-- A new step begins with the samples `rest` still to come: the results of the step before were handed over in that
step and are not kept (R16; log entries 8 and 9). -/
def State.beginStep (rest : List Sample) (s : State) : State :=
  { s.clearLines with pending := rest, draw := s.draw + 1 }

/-- The last branch of DECODE (R60, R24): read the selected table at `c`; a zero entry emits nothing. -/
def State.lookupEmit (c : FlexCode) (s : State) : State :=
  let v := memRead (selectedSpace s.core) c
  if v = 0 then s.noEmit else s.emitAsc v

/-- The whole of `DECODE(c)` as a function of the core's state alone (R60): the next state, and nothing or one byte.
The tests on 0, 8 and 4 come before any lookup, which makes those entries dead (R25). -/
def decodeCode (c : FlexCode) (k : CoreState) : CoreState × Option AsciiByte :=
  if c = 0 then (k, some 0)
  else if c = 8 then (⟨true⟩, none)
  else if c = 4 then (⟨false⟩, none)
  else
    let v := memRead (selectedSpace k) c
    if v = 0 then (k, none) else (k, some v)

/-- Hand the result of a decode to the machine: the core's next state, and the byte if there is one. -/
def State.deliver (r : CoreState × Option AsciiByte) (s : State) : State :=
  match r.2 with
  | some v => { s with core := r.1 }.emitAsc v
  | none => { s with core := r.1 }.noEmit

end Sys2Proof.Machine
end

