-- ==== Sys2Proof/Machine/Caseless.lean ====
section
/-! DEFINITION. The meanings of the 7 caseless codes (44_decoder_caseless.md R121 to R127): the lookup branch of R60. -/

namespace Sys2Proof.Machine

/-- `CHR03`, `DECODE(3)` (R121). -/
def execChr03 (s : State) : Host.Outcome State Fault Refusal := .next (s.lookupEmit 0b000011#6)

/-- `CHR12`, `DECODE(12)` (R122). -/
def execChr12 (s : State) : Host.Outcome State Fault Refusal := .next (s.lookupEmit 0b001100#6)

/-- `CHR16`, `DECODE(16)` (R123). -/
def execChr16 (s : State) : Host.Outcome State Fault Refusal := .next (s.lookupEmit 0b010000#6)

/-- `CHR20`, `DECODE(20)` (R124). -/
def execChr20 (s : State) : Host.Outcome State Fault Refusal := .next (s.lookupEmit 0b010100#6)

/-- `CHR24`, `DECODE(24)` (R125). -/
def execChr24 (s : State) : Host.Outcome State Fault Refusal := .next (s.lookupEmit 0b011000#6)

/-- `CHR32`, `DECODE(32)` (R126). -/
def execChr32 (s : State) : Host.Outcome State Fault Refusal := .next (s.lookupEmit 0b100000#6)

/-- `CHR63`, `DECODE(63)` (R127). -/
def execChr63 (s : State) : Host.Outcome State Fault Refusal := .next (s.lookupEmit 0b111111#6)

end Sys2Proof.Machine
end

