-- ==== Sys2Proof/Machine/Control.lean ====
section
/-! DEFINITION. The meanings of `RESET` and of the three codes D handles before any lookup (41_decoder_control.md R61 to
R64). -/

namespace Sys2Proof.Machine

/-- `RESET` (R61, R157): `is_cap <- false`; no result, nothing enters a stream, and no result is pending after it. -/
def execReset (s : State) : Host.Outcome State Fault Refusal := .next (s.setCap false).clearLines

/-- `NUL`, `DECODE(0)` (R62): emits the constant byte 0, which is not a table entry; `is_cap` is neither read nor
written. -/
def execNul (s : State) : Host.Outcome State Fault Refusal := .next (s.emitAsc 0)

/-- `LC`, `DECODE(4)` (R63): `is_cap <- false`, no byte. -/
def execLc (s : State) : Host.Outcome State Fault Refusal := .next (s.setCap false).noEmit

/-- `UC`, `DECODE(8)` (R64): `is_cap <- true`, no byte; the table entries 60 and 62 are never read. -/
def execUc (s : State) : Host.Outcome State Fault Refusal := .next (s.setCap true).noEmit

end Sys2Proof.Machine
end

