-- ==== Sys2Proof/Machine/Figures.lean ====
section
/-! DEFINITION. The meanings of the 15 figure codes (43_decoder_figures.md R106 to R120): the lookup branch of R60. The entries that
look odd are the source's (R23). -/

namespace Sys2Proof.Machine

/-- `CHR02`, `DECODE(2)` (R106). -/
def execChr02 (s : State) : Host.Outcome State Fault Refusal := .next (s.lookupEmit 0b000010#6)

/-- `CHR07`, `DECODE(7)` (R107). -/
def execChr07 (s : State) : Host.Outcome State Fault Refusal := .next (s.lookupEmit 0b000111#6)

/-- `CHR10`, `DECODE(10)` (R108). -/
def execChr10 (s : State) : Host.Outcome State Fault Refusal := .next (s.lookupEmit 0b001010#6)

/-- `CHR11`, `DECODE(11)` (R109). -/
def execChr11 (s : State) : Host.Outcome State Fault Refusal := .next (s.lookupEmit 0b001011#6)

/-- `CHR14`, `DECODE(14)` (R110). -/
def execChr14 (s : State) : Host.Outcome State Fault Refusal := .next (s.lookupEmit 0b001110#6)

/-- `CHR15`, `DECODE(15)` (R111). -/
def execChr15 (s : State) : Host.Outcome State Fault Refusal := .next (s.lookupEmit 0b001111#6)

/-- `CHR18`, `DECODE(18)` (R112). -/
def execChr18 (s : State) : Host.Outcome State Fault Refusal := .next (s.lookupEmit 0b010010#6)

/-- `CHR19`, `DECODE(19)` (R113). -/
def execChr19 (s : State) : Host.Outcome State Fault Refusal := .next (s.lookupEmit 0b010011#6)

/-- `CHR22`, `DECODE(22)` (R114). -/
def execChr22 (s : State) : Host.Outcome State Fault Refusal := .next (s.lookupEmit 0b010110#6)

/-- `CHR23`, `DECODE(23)` (R115). -/
def execChr23 (s : State) : Host.Outcome State Fault Refusal := .next (s.lookupEmit 0b010111#6)

/-- `CHR26`, `DECODE(26)` (R116). -/
def execChr26 (s : State) : Host.Outcome State Fault Refusal := .next (s.lookupEmit 0b011010#6)

/-- `CHR27`, `DECODE(27)` (R117). -/
def execChr27 (s : State) : Host.Outcome State Fault Refusal := .next (s.lookupEmit 0b011011#6)

/-- `CHR30`, `DECODE(30)` (R118). -/
def execChr30 (s : State) : Host.Outcome State Fault Refusal := .next (s.lookupEmit 0b011110#6)

/-- `CHR34`, `DECODE(34)` (R119). -/
def execChr34 (s : State) : Host.Outcome State Fault Refusal := .next (s.lookupEmit 0b100010#6)

/-- `CHR38`, `DECODE(38)` (R120). -/
def execChr38 (s : State) : Host.Outcome State Fault Refusal := .next (s.lookupEmit 0b100110#6)

end Sys2Proof.Machine
end

