-- ==== Sys2Proof/Machine/Letters.lean ====
section
/-! DEFINITION. The meanings of the 26 letter codes (42_decoder_letters.md R80 to R105): the lookup branch of R60. -/

namespace Sys2Proof.Machine

/-- `CHR01`, `DECODE(1)` (R80). -/
def execChr01 (s : State) : Host.Outcome State Fault Refusal := .next (s.lookupEmit 0b000001#6)

/-- `CHR05`, `DECODE(5)` (R81). -/
def execChr05 (s : State) : Host.Outcome State Fault Refusal := .next (s.lookupEmit 0b000101#6)

/-- `CHR06`, `DECODE(6)` (R82). -/
def execChr06 (s : State) : Host.Outcome State Fault Refusal := .next (s.lookupEmit 0b000110#6)

/-- `CHR09`, `DECODE(9)` (R83). -/
def execChr09 (s : State) : Host.Outcome State Fault Refusal := .next (s.lookupEmit 0b001001#6)

/-- `CHR13`, `DECODE(13)` (R84). -/
def execChr13 (s : State) : Host.Outcome State Fault Refusal := .next (s.lookupEmit 0b001101#6)

/-- `CHR17`, `DECODE(17)` (R85). -/
def execChr17 (s : State) : Host.Outcome State Fault Refusal := .next (s.lookupEmit 0b010001#6)

/-- `CHR21`, `DECODE(21)` (R86). -/
def execChr21 (s : State) : Host.Outcome State Fault Refusal := .next (s.lookupEmit 0b010101#6)

/-- `CHR25`, `DECODE(25)` (R87). -/
def execChr25 (s : State) : Host.Outcome State Fault Refusal := .next (s.lookupEmit 0b011001#6)

/-- `CHR29`, `DECODE(29)` (R88). -/
def execChr29 (s : State) : Host.Outcome State Fault Refusal := .next (s.lookupEmit 0b011101#6)

/-- `CHR31`, `DECODE(31)` (R89). -/
def execChr31 (s : State) : Host.Outcome State Fault Refusal := .next (s.lookupEmit 0b011111#6)

/-- `CHR33`, `DECODE(33)` (R90). -/
def execChr33 (s : State) : Host.Outcome State Fault Refusal := .next (s.lookupEmit 0b100001#6)

/-- `CHR35`, `DECODE(35)` (R91). -/
def execChr35 (s : State) : Host.Outcome State Fault Refusal := .next (s.lookupEmit 0b100011#6)

/-- `CHR37`, `DECODE(37)` (R92). -/
def execChr37 (s : State) : Host.Outcome State Fault Refusal := .next (s.lookupEmit 0b100101#6)

/-- `CHR39`, `DECODE(39)` (R93). -/
def execChr39 (s : State) : Host.Outcome State Fault Refusal := .next (s.lookupEmit 0b100111#6)

/-- `CHR41`, `DECODE(41)` (R94). -/
def execChr41 (s : State) : Host.Outcome State Fault Refusal := .next (s.lookupEmit 0b101001#6)

/-- `CHR42`, `DECODE(42)` (R95). -/
def execChr42 (s : State) : Host.Outcome State Fault Refusal := .next (s.lookupEmit 0b101010#6)

/-- `CHR45`, `DECODE(45)` (R96). -/
def execChr45 (s : State) : Host.Outcome State Fault Refusal := .next (s.lookupEmit 0b101101#6)

/-- `CHR46`, `DECODE(46)` (R97). -/
def execChr46 (s : State) : Host.Outcome State Fault Refusal := .next (s.lookupEmit 0b101110#6)

/-- `CHR49`, `DECODE(49)` (R98). -/
def execChr49 (s : State) : Host.Outcome State Fault Refusal := .next (s.lookupEmit 0b110001#6)

/-- `CHR50`, `DECODE(50)` (R99). -/
def execChr50 (s : State) : Host.Outcome State Fault Refusal := .next (s.lookupEmit 0b110010#6)

/-- `CHR53`, `DECODE(53)` (R100). -/
def execChr53 (s : State) : Host.Outcome State Fault Refusal := .next (s.lookupEmit 0b110101#6)

/-- `CHR54`, `DECODE(54)` (R101). -/
def execChr54 (s : State) : Host.Outcome State Fault Refusal := .next (s.lookupEmit 0b110110#6)

/-- `CHR57`, `DECODE(57)` (R102). -/
def execChr57 (s : State) : Host.Outcome State Fault Refusal := .next (s.lookupEmit 0b111001#6)

/-- `CHR58`, `DECODE(58)` (R103). -/
def execChr58 (s : State) : Host.Outcome State Fault Refusal := .next (s.lookupEmit 0b111010#6)

/-- `CHR61`, `DECODE(61)` (R104). -/
def execChr61 (s : State) : Host.Outcome State Fault Refusal := .next (s.lookupEmit 0b111101#6)

/-- `CHR62`, `DECODE(62)` (R105). -/
def execChr62 (s : State) : Host.Outcome State Fault Refusal := .next (s.lookupEmit 0b111110#6)

end Sys2Proof.Machine
end

