-- ==== Sys2Proof/Machine/Unscrambler.lean ====
section
/-! DEFINITION. The meaning of sub-block U's one operation (40_unscrambler.md R50). -/

namespace Sys2Proof.Machine

/-- `UNSCR(raw)` (R50): the FlexCode on U's output; no state is read or written (R53), in particular neither `is_cap`
nor the ASCII lines. -/
def execUnscr (raw : RawByte) (s : State) : Host.Outcome State Fault Refusal := .next (s.emitFlex (unscr raw))

end Sys2Proof.Machine
end

