-- ==== Sys2Proof/Machine/Voids.lean ====
section
/-! DEFINITION. The meanings of the 13 void codes (41_decoder_control.md R65 to R77): the lookup branch of R60, which finds a zero
entry in either table. -/

namespace Sys2Proof.Machine

/-- `VOID28`, `DECODE(28)` (R65). -/
def execVoid28 (s : State) : Host.Outcome State Fault Refusal := .next (s.lookupEmit 0b011100#6)

/-- `VOID36`, `DECODE(36)` (R66). -/
def execVoid36 (s : State) : Host.Outcome State Fault Refusal := .next (s.lookupEmit 0b100100#6)

/-- `VOID40`, `DECODE(40)` (R67). -/
def execVoid40 (s : State) : Host.Outcome State Fault Refusal := .next (s.lookupEmit 0b101000#6)

/-- `VOID43`, `DECODE(43)` (R68). -/
def execVoid43 (s : State) : Host.Outcome State Fault Refusal := .next (s.lookupEmit 0b101011#6)

/-- `VOID44`, `DECODE(44)` (R69). -/
def execVoid44 (s : State) : Host.Outcome State Fault Refusal := .next (s.lookupEmit 0b101100#6)

/-- `VOID47`, `DECODE(47)` (R70). -/
def execVoid47 (s : State) : Host.Outcome State Fault Refusal := .next (s.lookupEmit 0b101111#6)

/-- `VOID48`, `DECODE(48)` (R71). -/
def execVoid48 (s : State) : Host.Outcome State Fault Refusal := .next (s.lookupEmit 0b110000#6)

/-- `VOID51`, `DECODE(51)` (R72). -/
def execVoid51 (s : State) : Host.Outcome State Fault Refusal := .next (s.lookupEmit 0b110011#6)

/-- `VOID52`, `DECODE(52)` (R73). -/
def execVoid52 (s : State) : Host.Outcome State Fault Refusal := .next (s.lookupEmit 0b110100#6)

/-- `VOID55`, `DECODE(55)` (R74). -/
def execVoid55 (s : State) : Host.Outcome State Fault Refusal := .next (s.lookupEmit 0b110111#6)

/-- `VOID56`, `DECODE(56)` (R75). -/
def execVoid56 (s : State) : Host.Outcome State Fault Refusal := .next (s.lookupEmit 0b111000#6)

/-- `VOID59`, `DECODE(59)` (R76). -/
def execVoid59 (s : State) : Host.Outcome State Fault Refusal := .next (s.lookupEmit 0b111011#6)

/-- `VOID60`, `DECODE(60)` (R77). -/
def execVoid60 (s : State) : Host.Outcome State Fault Refusal := .next (s.lookupEmit 0b111100#6)

end Sys2Proof.Machine
end

