-- ==== Sys2Proof/Machine/Dispatch.lean ====
section
/-! DEFINITION. One arm per operation: the code map of 30_encoding.md R41 with `UNSCR` and `RESET`. -/

namespace Sys2Proof.Machine

def exec (i : Instr) (s : State) : Host.Outcome State Fault Refusal :=
  match i with
  | .unscr raw => Sys2Proof.Machine.execUnscr raw s
  | .reset => Sys2Proof.Machine.execReset s
  | .nul => Sys2Proof.Machine.execNul s
  | .chr01 => Sys2Proof.Machine.execChr01 s
  | .chr02 => Sys2Proof.Machine.execChr02 s
  | .chr03 => Sys2Proof.Machine.execChr03 s
  | .lc => Sys2Proof.Machine.execLc s
  | .chr05 => Sys2Proof.Machine.execChr05 s
  | .chr06 => Sys2Proof.Machine.execChr06 s
  | .chr07 => Sys2Proof.Machine.execChr07 s
  | .uc => Sys2Proof.Machine.execUc s
  | .chr09 => Sys2Proof.Machine.execChr09 s
  | .chr10 => Sys2Proof.Machine.execChr10 s
  | .chr11 => Sys2Proof.Machine.execChr11 s
  | .chr12 => Sys2Proof.Machine.execChr12 s
  | .chr13 => Sys2Proof.Machine.execChr13 s
  | .chr14 => Sys2Proof.Machine.execChr14 s
  | .chr15 => Sys2Proof.Machine.execChr15 s
  | .chr16 => Sys2Proof.Machine.execChr16 s
  | .chr17 => Sys2Proof.Machine.execChr17 s
  | .chr18 => Sys2Proof.Machine.execChr18 s
  | .chr19 => Sys2Proof.Machine.execChr19 s
  | .chr20 => Sys2Proof.Machine.execChr20 s
  | .chr21 => Sys2Proof.Machine.execChr21 s
  | .chr22 => Sys2Proof.Machine.execChr22 s
  | .chr23 => Sys2Proof.Machine.execChr23 s
  | .chr24 => Sys2Proof.Machine.execChr24 s
  | .chr25 => Sys2Proof.Machine.execChr25 s
  | .chr26 => Sys2Proof.Machine.execChr26 s
  | .chr27 => Sys2Proof.Machine.execChr27 s
  | .void28 => Sys2Proof.Machine.execVoid28 s
  | .chr29 => Sys2Proof.Machine.execChr29 s
  | .chr30 => Sys2Proof.Machine.execChr30 s
  | .chr31 => Sys2Proof.Machine.execChr31 s
  | .chr32 => Sys2Proof.Machine.execChr32 s
  | .chr33 => Sys2Proof.Machine.execChr33 s
  | .chr34 => Sys2Proof.Machine.execChr34 s
  | .chr35 => Sys2Proof.Machine.execChr35 s
  | .void36 => Sys2Proof.Machine.execVoid36 s
  | .chr37 => Sys2Proof.Machine.execChr37 s
  | .chr38 => Sys2Proof.Machine.execChr38 s
  | .chr39 => Sys2Proof.Machine.execChr39 s
  | .void40 => Sys2Proof.Machine.execVoid40 s
  | .chr41 => Sys2Proof.Machine.execChr41 s
  | .chr42 => Sys2Proof.Machine.execChr42 s
  | .void43 => Sys2Proof.Machine.execVoid43 s
  | .void44 => Sys2Proof.Machine.execVoid44 s
  | .chr45 => Sys2Proof.Machine.execChr45 s
  | .chr46 => Sys2Proof.Machine.execChr46 s
  | .void47 => Sys2Proof.Machine.execVoid47 s
  | .void48 => Sys2Proof.Machine.execVoid48 s
  | .chr49 => Sys2Proof.Machine.execChr49 s
  | .chr50 => Sys2Proof.Machine.execChr50 s
  | .void51 => Sys2Proof.Machine.execVoid51 s
  | .void52 => Sys2Proof.Machine.execVoid52 s
  | .chr53 => Sys2Proof.Machine.execChr53 s
  | .chr54 => Sys2Proof.Machine.execChr54 s
  | .void55 => Sys2Proof.Machine.execVoid55 s
  | .void56 => Sys2Proof.Machine.execVoid56 s
  | .chr57 => Sys2Proof.Machine.execChr57 s
  | .chr58 => Sys2Proof.Machine.execChr58 s
  | .void59 => Sys2Proof.Machine.execVoid59 s
  | .void60 => Sys2Proof.Machine.execVoid60 s
  | .chr61 => Sys2Proof.Machine.execChr61 s
  | .chr62 => Sys2Proof.Machine.execChr62 s
  | .chr63 => Sys2Proof.Machine.execChr63 s

end Sys2Proof.Machine
end

