-- ==== Sys2Proof/Machine/Pipeline.lean ====
section
/-! DEFINITION. The composite operation `STEP` and the session (45_pipeline.md R130, R131). -/

namespace Sys2Proof.Machine

/-- `STEP(raw)` (R130, R137): U's result is emitted and enters the FlexCode stream, then D executes the operation that
code is. It adds nothing of its own. -/
def execStep (raw : RawByte) (s : State) : Host.Outcome State Fault Refusal :=
  exec (instrOfCode (unscr raw)) ((s.emitFlex (unscr raw)).appendFlex (unscr raw))

/-- One byte of a session on the three values of R131: the two streams and the core. -/
def sessionByte (acc : List (BitVec 8) × List AsciiByte × CoreState) (raw : RawByte) :
    List (BitVec 8) × List AsciiByte × CoreState :=
  let r := decodeCode (unscr raw) acc.2.2
  (acc.1 ++ [zext8 (unscr raw)], acc.2.1 ++ r.2.toList, r.1)

/-- The bytes of one tape decoded from a given core state: what happens when the host omits `RESET` (R159, D15). -/
def sessionFrom (k : CoreState) (tape : List RawByte) : List (BitVec 8) × List AsciiByte × CoreState :=
  tape.foldl sessionByte ([], [], k)

/-- A session (R131): `RESET`, then `STEP` on every byte in tape order. -/
def session (tape : List RawByte) : List (BitVec 8) × List AsciiByte × CoreState := sessionFrom ⟨false⟩ tape

/-- D used alone (R135): the ASCII bytes and the core after a list of codes. -/
def decodeCodes (k : CoreState) (codes : List FlexCode) : List AsciiByte × CoreState :=
  codes.foldl (fun acc c => (acc.1 ++ (decodeCode c acc.2).2.toList, (decodeCode c acc.2).1)) ([], k)

end Sys2Proof.Machine
end

