-- ==== Sys2Proof/Machine/Ports.lean ====
section
/-! DEFINITION. The ports (30_encoding.md R48): what one sample of the input ports makes the core do, what the output
ports show, and the samples a tape listing assembles to (R46). -/

namespace Sys2Proof.Machine

/-- The single operation a sample asks for, as a port word. With `rst` = 1 it is `RESET`, and a symbol in the same
sample is not looked at (R143, D3). A composite symbol is two operations, `STEP`, and is not a single word. -/
def Sample.word : Sample → Option PortWord
  | .u uRaw => some (.raw8 uRaw)
  | .d true _ _ => some (.ctrl 0b1#1)
  | .d false true codeIn => some (.flex6 (zext8 codeIn))
  | .d false false _ => none
  | .composite true _ _ => some (.ctrl 0b1#1)
  | .composite false _ _ => none
  | .codeByte byte => some (.flex6 byte)

/-- Decode a port word and execute it. A wire `rst` at 0 asks for nothing (R48); a byte above 63 is refused (D4). -/
def runWord (word : PortWord) (s : State) : Host.Outcome State Fault Refusal :=
  match decode word with
  | .ok i => exec i s
  | .error .rstInactive => .next s
  | .error (.notAFlexCode byte) => .refused (.notAFlexCode byte)

/-- What the core does with one sample (R48): the composite with `rst` = 0 and `raw_valid` = 1 does `STEP`; with every
valid input 0 nothing happens; every other sample is one operation. -/
def present (sample : Sample) (s : State) : Host.Outcome State Fault Refusal :=
  match sample with
  | .composite false true uRaw => execStep uRaw s
  | other =>
    match other.word with
    | some word => runWord word s
    | none => .next s

/-- The sample that puts a port word on its port. -/
def sampleOf : PortWord → Sample
  | .ctrl rst => .d (rst == 1#1) false 0
  | .raw8 raw => .u raw
  | .flex6 byte => .codeByte byte

/-- `flex_valid` (R48). -/
def State.flexValid (s : State) : Bool := s.flexOut.isSome

/-- `asc_valid` (R48). -/
def State.ascValid (s : State) : Bool := s.ascOut.isSome

/-- The eight lines `asc_out`: the emitted byte, or any value when `asc_valid` = 0 (R48, U2, D5). -/
def State.ascLines (s : State) : AsciiByte := s.ascOut.getD (Config.idleAscOut s.draw)

/-- The lines `u_flex` = `flex_out`: combinational, `UNSCR(u_raw)` whatever the valid inputs are (R48); `none` where the
sample belongs to D alone, which has no such port. -/
def Sample.uFlex : Sample → Option FlexCode
  | .u uRaw => some (unscr uRaw)
  | .composite _ _ uRaw => some (unscr uRaw)
  | .d _ _ _ => none
  | .codeByte _ => none

/-- A listing line as a sample of the composite (R46): a symbol is presented as its canonical raw byte. -/
def assemble : ListingLine → Sample
  | .symbol c => .composite false true (canonicalRaw c)
  | .raw byte => .composite false true byte
  | .reset => .composite true false 0

/-- The samples of one tape, from its first byte to its last (R131). -/
def tapeSamples (tape : List RawByte) : List Sample := tape.map fun raw => .composite false true raw

/-- The samples of one session: `RESET`, then the tape (R131, R158). -/
def sessionSamples (tape : List RawByte) : List Sample := .composite true false 0 :: tapeSamples tape

end Sys2Proof.Machine
end

