-- ==== Sys2Proof/Machine/Step.lean ====
section
/-! DEFINITION. One step of the machine is one sample of the ports (92_eei_decisions.md D1, R48). -/

namespace Sys2Proof.Machine

/-- Take the next sample the host presents and do what it asks; with none left, nothing happens in the step
(R48, R136; log entry 2). -/
def step (s : State) : Host.Outcome State Fault Refusal :=
  match s.pending with
  | [] => .next (s.beginStep [])
  | sample :: rest => present sample (s.beginStep rest)

/-- The state with a bare word of the opcode table as the next presentation, before whatever was pending
(log entries 3 and 4). -/
def State.withFetchWord (s : State) (nbits w : Nat) : State :=
  { s with pending := sampleOf (tableWord nbits w) :: s.pending }

end Sys2Proof.Machine
end

