-- ==== Sys2Proof/Safety.lean ====
section
/-! DEFINITION. The terms the claims use: which outputs are legal, what a rule says of one code, and the code map of the
spec as data of its own, written from its table and not from the model. -/

namespace Sys2Proof

open Machine

/-- The bytes D can emit, as 30_encoding.md R39 lists them. -/
def emittable : List AsciiByte :=
  [0, 8, 9, 13, 15, 32, 34, 35, 36, 37, 38, 39, 40, 41, 42] ++
  [43, 44, 45, 46, 47, 48, 50, 51, 52, 53, 54, 55, 56, 57, 58] ++
  [59, 61, 63, 65, 66, 67, 68, 69, 70, 71, 72, 73, 74, 75, 76] ++
  [77, 78, 79, 80, 81, 82, 83, 84, 85, 86, 87, 88, 89, 90, 91] ++
  [93, 94, 95, 97, 98, 99, 100, 101, 102, 103, 104, 105, 106, 107, 108] ++
  [109, 110, 111, 112, 113, 114, 115, 116, 117, 118, 119, 120, 121, 122, 127]

/-- The values from 8 to 127 that are never emitted, as R39 lists them. -/
def neverEmitted : List Nat :=
  [10, 11, 12, 14, 16, 17, 18, 19, 20, 21, 22, 23, 24, 25, 26] ++
  [27, 28, 29, 30, 31, 33, 49, 60, 62, 64, 92, 96, 123, 124, 125] ++
  [126]

/-- The output streams and the ASCII lines hold only what the hardware can produce: FlexCode bytes up to 63 (R27, R132),
emittable bytes (R39), and a byte on the lines is the one last put into the stream (R8). -/
def OutputsLegal (s : State) : Prop :=
  (∀ b ∈ s.flexStream, b.toNat ≤ 63) ∧ (∀ v ∈ s.ascStream, v ∈ emittable) ∧
    ∀ v, s.ascOut = some v → s.ascStream.getLast? = some v

/-- `DECODE` over two tables given as arguments, with the tests of R60 before the lookup. -/
def decodeWith (cap low : FlexCode → AsciiByte) (c : FlexCode) (k : CoreState) : CoreState × Option AsciiByte :=
  if c = 0 then (k, some 0)
  else if c = 8 then (⟨true⟩, none)
  else if c = 4 then (⟨false⟩, none)
  else if (if k.isCap then cap c else low c) = 0 then (k, none)
  else (k, some (if k.isCap then cap c else low c))

/-- What a per-code rule says of a code's encoding: its FLEX6 value, the channels at 1, the raw bytes that select it, and
that these are the bytes that agree with the first of them in bits 5 to 0 (R42). -/
def CodeEncoding (i : Instr) (c : FlexCode) (channels : List Nat) (raws : List RawByte) : Prop :=
  encode i = .flex6 (zext8 c) ∧ decode (.flex6 (zext8 c)) = .ok i ∧ channelsAtOne c = channels ∧
    (∀ raw : RawByte, unscr raw = c ↔ raw ∈ raws) ∧
    ∀ raw : RawByte, raw ∈ raws ↔ raw &&& 0x3F#8 = raws.headD 0

/-- The state after a byte is emitted: it stands on the lines and enters the ASCII stream (R9, log entry 6); everything
else is unchanged. -/
def emitted (v : AsciiByte) (s : State) : State := { s with ascOut := some v, ascStream := s.ascStream ++ [v] }

/-- What a rule of files 42 to 44 says of a printing code: both entries and that they are not 0; the byte emitted and
that nothing else changes, for every state; and the byte after a `RESET` and after a `UC`. -/
def PrintingRule (i : Instr) (c : FlexCode) (cap low : AsciiByte) : Prop :=
  memRead .romCap c = cap ∧ memRead .romLow c = low ∧ cap ≠ 0 ∧ low ≠ 0 ∧
    (∀ s, exec i s = .next (emitted (if s.core.isCap then cap else low) s)) ∧
    (∀ s, ∃ t, exec .reset s = .next t ∧ exec i t = .next (emitted low t)) ∧
    ∀ s, ∃ t, exec .uc s = .next t ∧ exec i t = .next (emitted cap t)

/-- What a rule of file 41 says of a void code: both entries are 0, and in every state no byte is emitted and nothing
else changes. -/
def VoidRule (i : Instr) (c : FlexCode) : Prop :=
  memRead .romCap c = 0 ∧ memRead .romLow c = 0 ∧ ∀ s, exec i s = .next { s with ascOut := none }

/-- The classes of R41. -/
inductive CodeClass where
  | null
  | shift
  | void
  | letter
  | figure
  | caseless
  deriving DecidableEq, Repr

/-- A row of the code map of R41. -/
structure CodeRow where
  /-- The code. -/
  code : FlexCode
  /-- Its canonical raw byte. -/
  raw : RawByte
  /-- Its class. -/
  cls : CodeClass
  /-- The byte emitted in capital state. -/
  cap : Option AsciiByte
  /-- The byte emitted in lowercase state. -/
  low : Option AsciiByte
  /-- `is_cap` after the operation; `none` is "unchanged". -/
  after : Option Bool
  deriving DecidableEq, Repr

/-- The table of R41, row by row. -/
def codeMap : List CodeRow :=
  [⟨0, 0x00, .null, some 0, some 0, none⟩,
   ⟨1, 0x20, .letter, some 90, some 122, none⟩,
   ⟨2, 0x01, .figure, some 41, some 48, none⟩,
   ⟨3, 0x21, .caseless, some 32, some 32, none⟩,
   ⟨4, 0x02, .shift, none, none, some false⟩,
   ⟨5, 0x22, .letter, some 66, some 98, none⟩,
   ⟨6, 0x03, .letter, some 76, some 108, none⟩,
   ⟨7, 0x23, .figure, some 95, some 45, none⟩,
   ⟨8, 0x04, .shift, none, none, some true⟩,
   ⟨9, 0x24, .letter, some 89, some 121, none⟩,
   ⟨10, 0x05, .figure, some 42, some 50, none⟩,
   ⟨11, 0x25, .figure, some 61, some 43, none⟩,
   ⟨12, 0x06, .caseless, some 15, some 15, none⟩,
   ⟨13, 0x26, .letter, some 82, some 114, none⟩,
   ⟨14, 0x07, .figure, some 34, some 51, none⟩,
   ⟨15, 0x27, .figure, some 58, some 59, none⟩] ++
  [⟨16, 0x08, .caseless, some 13, some 13, none⟩,
   ⟨17, 0x28, .letter, some 73, some 105, none⟩,
   ⟨18, 0x09, .figure, some 94, some 52, none⟩,
   ⟨19, 0x29, .figure, some 63, some 47, none⟩,
   ⟨20, 0x0A, .caseless, some 8, some 8, none⟩,
   ⟨21, 0x2A, .letter, some 68, some 100, none⟩,
   ⟨22, 0x0B, .figure, some 37, some 53, none⟩,
   ⟨23, 0x2B, .figure, some 93, some 46, none⟩,
   ⟨24, 0x0C, .caseless, some 9, some 9, none⟩,
   ⟨25, 0x2C, .letter, some 78, some 110, none⟩,
   ⟨26, 0x0D, .figure, some 36, some 54, none⟩,
   ⟨27, 0x2D, .figure, some 91, some 44, none⟩,
   ⟨28, 0x0E, .void, none, none, none⟩,
   ⟨29, 0x2E, .letter, some 77, some 109, none⟩,
   ⟨30, 0x0F, .figure, some 35, some 55, none⟩,
   ⟨31, 0x2F, .letter, some 86, some 118, none⟩] ++
  [⟨32, 0x10, .caseless, some 39, some 39, none⟩,
   ⟨33, 0x30, .letter, some 80, some 112, none⟩,
   ⟨34, 0x11, .figure, some 38, some 56, none⟩,
   ⟨35, 0x31, .letter, some 79, some 111, none⟩,
   ⟨36, 0x12, .void, none, none, none⟩,
   ⟨37, 0x32, .letter, some 69, some 101, none⟩,
   ⟨38, 0x13, .figure, some 40, some 57, none⟩,
   ⟨39, 0x33, .letter, some 88, some 120, none⟩,
   ⟨40, 0x14, .void, none, none, none⟩,
   ⟨41, 0x34, .letter, some 85, some 117, none⟩,
   ⟨42, 0x15, .letter, some 70, some 102, none⟩,
   ⟨43, 0x35, .void, none, none, none⟩,
   ⟨44, 0x16, .void, none, none, none⟩,
   ⟨45, 0x36, .letter, some 84, some 116, none⟩,
   ⟨46, 0x17, .letter, some 71, some 103, none⟩,
   ⟨47, 0x37, .void, none, none, none⟩] ++
  [⟨48, 0x18, .void, none, none, none⟩,
   ⟨49, 0x38, .letter, some 72, some 104, none⟩,
   ⟨50, 0x19, .letter, some 74, some 106, none⟩,
   ⟨51, 0x39, .void, none, none, none⟩,
   ⟨52, 0x1A, .void, none, none, none⟩,
   ⟨53, 0x3A, .letter, some 67, some 99, none⟩,
   ⟨54, 0x1B, .letter, some 75, some 107, none⟩,
   ⟨55, 0x3B, .void, none, none, none⟩,
   ⟨56, 0x1C, .void, none, none, none⟩,
   ⟨57, 0x3C, .letter, some 65, some 97, none⟩,
   ⟨58, 0x1D, .letter, some 81, some 113, none⟩,
   ⟨59, 0x3D, .void, none, none, none⟩,
   ⟨60, 0x1E, .void, none, none, none⟩,
   ⟨61, 0x3E, .letter, some 83, some 115, none⟩,
   ⟨62, 0x1F, .letter, some 87, some 119, none⟩,
   ⟨63, 0x3F, .caseless, some 127, some 127, none⟩]

/-- How many rows have a class. -/
def classCount (k : CodeClass) : Nat := (codeMap.filter fun r => r.cls == k).length

/-- The 128 pairs of a code and a core state (R78). -/
def decodePairs : List (FlexCode × CoreState) :=
  (List.range 64).flatMap fun n => [(BitVec.ofNat 6 n, ⟨false⟩), (BitVec.ofNat 6 n, ⟨true⟩)]

/-- How many pairs have a property of the code and of what DECODE emits. -/
def pairCount (p : FlexCode → Option AsciiByte → Bool) : Nat :=
  (decodePairs.filter fun q => p q.1 (decodeCode q.1 q.2).2).length

end Sys2Proof
end

