-- ==== Sys2Proof/Certificates/Slice0/Obligations.lean ====
section
/-! DEFINITION. The statements for the provers. Each docstring says the rule of spec/ it formalises, or what it rests on. -/

open Sys2Proof Sys2Proof.Machine

/-- For every raw byte and state, exec of UNSCR answers the state with only the FlexCode result set. The result, in
integer arithmetic, is the byte shifted left by one within 8 bits, with 1 or-ed in when bit 6 of the shifted value is
set, reduced to its low 6 bits. The corner cases and the worked example of the rule are stated as well. Formalises
R50. -/
def Obligations.UnscrThreeSteps : Prop :=
  (∀ (raw : RawByte) (s : State),
    exec (.unscr raw) s = .next { s with flexOut := some (unscr raw) } ∧
    (let tmp := 2 * raw.toNat % 256
     (unscr raw).toNat = (if tmp / 64 % 2 = 1 then tmp ||| 1 else tmp) % 64)) ∧
  unscr 0x00#8 = 0x00#6 ∧ unscr 0x20#8 = 0x01#6 ∧ unscr 0x40#8 = 0x00#6 ∧ unscr 0x80#8 = 0x00#6 ∧
  unscr 0xFF#8 = 0x3F#6 ∧ unscr 0x2A#8 = 0x15#6

/-- For every raw byte UNSCR is rotl6 of its low six bits: result bits 5 to 1 are raw bits 4 to 0 and result bit 0 is
raw bit 5. Two raw bytes that agree in bits 5 to 0 give the same code. Derived from 40_unscrambler.md section 1 (R51,
which the spec derives from R50). -/
def Obligations.UnscrIsRotationOfLowSixBits : Prop :=
  ∀ raw : RawByte,
    unscr raw = rotl6 (raw.setWidth 6) ∧
    (∀ k, k < 5 → (unscr raw).getLsbD (k + 1) = raw.getLsbD k) ∧
    (unscr raw).getLsbD 0 = raw.getLsbD 5 ∧
    ∀ other : RawByte, other.setWidth 6 = raw.setWidth 6 → unscr other = unscr raw

/-- For every raw byte the table of R52, transcribed from the spec, has an entry, and it is UNSCR of the byte; the
table has period 64. Derived from 40_unscrambler.md section 1 (R52, which the spec derives from R50). -/
def Obligations.UnscrTableAgrees : Prop :=
  ∀ raw : RawByte, unscrLookup raw = some (unscr raw) ∧ unscrLookup (raw + 0x40#8) = unscrLookup raw

/-- A raw byte maps to a code exactly when it is rotr6 of the code plus 0x00, 0x40, 0x80 or 0xC0; the four are
distinct; on raw bytes below 0x40 UNSCR is a bijection with inverse rotr6. Two tapes whose bytes agree in bits 5 to 0
give the same FlexCode stream, ASCII stream and final state. Derived from 40_unscrambler.md section 2 (R54, which the
spec derives from R51); 70_reset_and_hazards.md section 3 (R161, derived from R51). -/
def Obligations.UnscrPreimagesAndLostBits : Prop :=
  (∀ (raw : RawByte) (c : FlexCode), unscr raw = c ↔ raw ∈ preimages c) ∧
  (∀ c : FlexCode, (preimages c).Nodup ∧ unscr (zext8 (rotr6 c)) = c) ∧
  (∀ raw : RawByte, raw.toNat < 64 → zext8 (rotr6 (unscr raw)) = raw) ∧
  ∀ a b : List RawByte, a.map (fun raw => raw &&& 0x3F#8) = b.map (fun raw => raw &&& 0x3F#8) →
    ∀ k : CoreState, sessionFrom k a = sessionFrom k b

/-- For every raw byte there is one code, at most 63, that exec of UNSCR gives from every state, leaving the core as
it was. Formalises R53. -/
def Obligations.UnscrIsPureAndTotal : Prop :=
  ∀ raw : RawByte, ∃ f : FlexCode, f.toNat ≤ 63 ∧
    ∀ s : State, ∃ t, exec (.unscr raw) s = .next t ∧ t.flexOut = some f ∧ t.core = s.core

/-- For every code and state, exec of the operation the code stands for answers the state R60 gives: code 0 emits 0,
code 8 sets is_cap, code 4 clears it, every other code emits the entry of the table is_cap selects when it is not 0
and nothing when it is; nothing else changes. Formalises R60. -/
def Obligations.DecodeFollowsGeneralRule : Prop :=
  ∀ (c : FlexCode) (s : State),
    exec (instrOfCode c) s = .next (
      if c = 0 then emitted 0 s
      else if c = 8 then { s with core := ⟨true⟩, ascOut := none }
      else if c = 4 then { s with core := ⟨false⟩, ascOut := none }
      else
        let v := if s.core.isCap then romCap.getD c.toNat 0 else romLow.getD c.toNat 0
        if v = 0 then { s with ascOut := none } else emitted v s)

/-- For every state exec of RESET answers the state with is_cap false and no result pending, everything else
unchanged; the core is then exactly as at power-on. The example of the rule holds: after UC, RESET makes is_cap false
and DECODE(1) emits 122. (RESET together with a code, decision D3, is ResetDiscardsTheSymbol.) Formalises R61. -/
def Obligations.ResetClearsShiftAndKeepsStreams : Prop :=
  (∀ s : State,
    exec .reset s = .next { s with core := ⟨false⟩, flexOut := none, ascOut := none } ∧
    ∃ t u, exec .uc s = .next t ∧ t.core.isCap = true ∧ exec .reset t = .next u ∧ u.core = State.reset.core ∧
      exec .chr01 u = .next (emitted 122 u)) ∧
  State.reset.core = ⟨false⟩

/-- The encoding of NUL, its four raw bytes, and for every state: exec of NUL emits the byte 0 and leaves everything
else, is_cap included, as it was; a byte is emitted, which is not the same as none. Formalises R62. -/
def Obligations.NullPassesThrough : Prop :=
  CodeEncoding .nul 0b000000#6 [] [0x00, 0x40, 0x80, 0xC0] ∧
    ∀ s : State, exec .nul s = .next (emitted 0 s) ∧ (emitted 0 s).ascOut ≠ none

/-- The encodings of LC and UC; for every state exec of LC (UC) answers the state with is_cap false (true) and no
byte, everything else unchanged, although the entries of UC in the tables are 60 and 62; applying either twice is
applying it once, and the sequences of the rules give the bytes stated. Formalises R63, R64. -/
def Obligations.ShiftCodesSetNotToggle : Prop :=
  CodeEncoding .lc 0b000100#6 [4] [0x02, 0x42, 0x82, 0xC2] ∧
    CodeEncoding .uc 0b001000#6 [3] [0x04, 0x44, 0x84, 0xC4] ∧
    memRead .romCap 4 = 0 ∧ memRead .romLow 4 = 0 ∧ memRead .romCap 8 = 60 ∧ memRead .romLow 8 = 62 ∧
    (∀ s : State,
      exec .lc s = .next { s with core := ⟨false⟩, ascOut := none } ∧
      exec .uc s = .next { s with core := ⟨true⟩, ascOut := none }) ∧
    (∀ s : State, ∃ t u, exec .lc s = .next t ∧ exec .lc t = .next u ∧ u = t) ∧
    (∀ s : State, ∃ t u, exec .uc s = .next t ∧ exec .uc t = .next u ∧ u = t) ∧
    ∀ s : State, ∃ t u, exec .uc s = .next t ∧ exec .chr01 t = .next (emitted 90 t) ∧
      exec .lc t = .next u ∧ exec .chr01 u = .next (emitted 122 u)

/-- For each of VOID28, VOID36, VOID40, VOID43, VOID44, VOID47, VOID48: its code, channels and raw bytes; both table
entries are 0; and for every state exec answers the state with no byte emitted and everything else unchanged.
Formalises R65, R66, R67, R68, R69, R70, R71. -/
def Obligations.VoidCodesLowDoNothing : Prop :=
  (CodeEncoding .void28 0b011100#6 [2, 3, 4] [0x0E, 0x4E, 0x8E, 0xCE] ∧ VoidRule .void28 0b011100#6)
  ∧ (CodeEncoding .void36 0b100100#6 [1, 4] [0x12, 0x52, 0x92, 0xD2] ∧ VoidRule .void36 0b100100#6)
  ∧ (CodeEncoding .void40 0b101000#6 [1, 3] [0x14, 0x54, 0x94, 0xD4] ∧ VoidRule .void40 0b101000#6)
  ∧ (CodeEncoding .void43 0b101011#6 [1, 3, 5, 6] [0x35, 0x75, 0xB5, 0xF5] ∧ VoidRule .void43 0b101011#6)
  ∧ (CodeEncoding .void44 0b101100#6 [1, 3, 4] [0x16, 0x56, 0x96, 0xD6] ∧ VoidRule .void44 0b101100#6)
  ∧ (CodeEncoding .void47 0b101111#6 [1, 3, 4, 5, 6] [0x37, 0x77, 0xB7, 0xF7] ∧ VoidRule .void47 0b101111#6)
  ∧ (CodeEncoding .void48 0b110000#6 [1, 2] [0x18, 0x58, 0x98, 0xD8] ∧ VoidRule .void48 0b110000#6)

/-- For each of VOID51, VOID52, VOID55, VOID56, VOID59, VOID60: its code, channels and raw bytes; both table entries
are 0; and for every state exec answers the state with no byte emitted and everything else unchanged. Formalises R72,
R73, R74, R75, R76, R77. -/
def Obligations.VoidCodesHighDoNothing : Prop :=
  (CodeEncoding .void51 0b110011#6 [1, 2, 5, 6] [0x39, 0x79, 0xB9, 0xF9] ∧ VoidRule .void51 0b110011#6)
  ∧ (CodeEncoding .void52 0b110100#6 [1, 2, 4] [0x1A, 0x5A, 0x9A, 0xDA] ∧ VoidRule .void52 0b110100#6)
  ∧ (CodeEncoding .void55 0b110111#6 [1, 2, 4, 5, 6] [0x3B, 0x7B, 0xBB, 0xFB] ∧ VoidRule .void55 0b110111#6)
  ∧ (CodeEncoding .void56 0b111000#6 [1, 2, 3] [0x1C, 0x5C, 0x9C, 0xDC] ∧ VoidRule .void56 0b111000#6)
  ∧ (CodeEncoding .void59 0b111011#6 [1, 2, 3, 5, 6] [0x3D, 0x7D, 0xBD, 0xFD] ∧ VoidRule .void59 0b111011#6)
  ∧ (CodeEncoding .void60 0b111100#6 [1, 2, 3, 4] [0x1E, 0x5E, 0x9E, 0xDE] ∧ VoidRule .void60 0b111100#6)

/-- For each of CHR01, CHR05, CHR06, CHR09, CHR13, CHR17, CHR21, CHR25, CHR29: its code, channels and raw bytes; its
capital and lowercase entries, both not 0; for every state exec answers the state with the selected entry emitted and
everything else unchanged; after RESET the lowercase byte, after UC the capital byte. Formalises R80, R81, R82, R83,
R84, R85, R86, R87, R88. -/
def Obligations.LetterCodesFirstEmit : Prop :=
  (CodeEncoding .chr01 0b000001#6 [6] [0x20, 0x60, 0xA0, 0xE0] ∧
    PrintingRule .chr01 0b000001#6 90 122)
  ∧ (CodeEncoding .chr05 0b000101#6 [4, 6] [0x22, 0x62, 0xA2, 0xE2] ∧
    PrintingRule .chr05 0b000101#6 66 98)
  ∧ (CodeEncoding .chr06 0b000110#6 [4, 5] [0x03, 0x43, 0x83, 0xC3] ∧
    PrintingRule .chr06 0b000110#6 76 108)
  ∧ (CodeEncoding .chr09 0b001001#6 [3, 6] [0x24, 0x64, 0xA4, 0xE4] ∧
    PrintingRule .chr09 0b001001#6 89 121)
  ∧ (CodeEncoding .chr13 0b001101#6 [3, 4, 6] [0x26, 0x66, 0xA6, 0xE6] ∧
    PrintingRule .chr13 0b001101#6 82 114)
  ∧ (CodeEncoding .chr17 0b010001#6 [2, 6] [0x28, 0x68, 0xA8, 0xE8] ∧
    PrintingRule .chr17 0b010001#6 73 105)
  ∧ (CodeEncoding .chr21 0b010101#6 [2, 4, 6] [0x2A, 0x6A, 0xAA, 0xEA] ∧
    PrintingRule .chr21 0b010101#6 68 100)
  ∧ (CodeEncoding .chr25 0b011001#6 [2, 3, 6] [0x2C, 0x6C, 0xAC, 0xEC] ∧
    PrintingRule .chr25 0b011001#6 78 110)
  ∧ (CodeEncoding .chr29 0b011101#6 [2, 3, 4, 6] [0x2E, 0x6E, 0xAE, 0xEE] ∧
    PrintingRule .chr29 0b011101#6 77 109)

/-- For each of CHR31, CHR33, CHR35, CHR37, CHR39, CHR41, CHR42, CHR45, CHR46: its code, channels and raw bytes; its
capital and lowercase entries, both not 0; for every state exec answers the state with the selected entry emitted and
everything else unchanged; after RESET the lowercase byte, after UC the capital byte. Formalises R89, R90, R91, R92,
R93, R94, R95, R96, R97. -/
def Obligations.LetterCodesSecondEmit : Prop :=
  (CodeEncoding .chr31 0b011111#6 [2, 3, 4, 5, 6] [0x2F, 0x6F, 0xAF, 0xEF] ∧
    PrintingRule .chr31 0b011111#6 86 118)
  ∧ (CodeEncoding .chr33 0b100001#6 [1, 6] [0x30, 0x70, 0xB0, 0xF0] ∧
    PrintingRule .chr33 0b100001#6 80 112)
  ∧ (CodeEncoding .chr35 0b100011#6 [1, 5, 6] [0x31, 0x71, 0xB1, 0xF1] ∧
    PrintingRule .chr35 0b100011#6 79 111)
  ∧ (CodeEncoding .chr37 0b100101#6 [1, 4, 6] [0x32, 0x72, 0xB2, 0xF2] ∧
    PrintingRule .chr37 0b100101#6 69 101)
  ∧ (CodeEncoding .chr39 0b100111#6 [1, 4, 5, 6] [0x33, 0x73, 0xB3, 0xF3] ∧
    PrintingRule .chr39 0b100111#6 88 120)
  ∧ (CodeEncoding .chr41 0b101001#6 [1, 3, 6] [0x34, 0x74, 0xB4, 0xF4] ∧
    PrintingRule .chr41 0b101001#6 85 117)
  ∧ (CodeEncoding .chr42 0b101010#6 [1, 3, 5] [0x15, 0x55, 0x95, 0xD5] ∧
    PrintingRule .chr42 0b101010#6 70 102)
  ∧ (CodeEncoding .chr45 0b101101#6 [1, 3, 4, 6] [0x36, 0x76, 0xB6, 0xF6] ∧
    PrintingRule .chr45 0b101101#6 84 116)
  ∧ (CodeEncoding .chr46 0b101110#6 [1, 3, 4, 5] [0x17, 0x57, 0x97, 0xD7] ∧
    PrintingRule .chr46 0b101110#6 71 103)

/-- For each of CHR49, CHR50, CHR53, CHR54, CHR57, CHR58, CHR61, CHR62: its code, channels and raw bytes; its capital
and lowercase entries, both not 0; for every state exec answers the state with the selected entry emitted and
everything else unchanged; after RESET the lowercase byte, after UC the capital byte. Formalises R98, R99, R100, R101,
R102, R103, R104, R105. -/
def Obligations.LetterCodesThirdEmit : Prop :=
  (CodeEncoding .chr49 0b110001#6 [1, 2, 6] [0x38, 0x78, 0xB8, 0xF8] ∧
    PrintingRule .chr49 0b110001#6 72 104)
  ∧ (CodeEncoding .chr50 0b110010#6 [1, 2, 5] [0x19, 0x59, 0x99, 0xD9] ∧
    PrintingRule .chr50 0b110010#6 74 106)
  ∧ (CodeEncoding .chr53 0b110101#6 [1, 2, 4, 6] [0x3A, 0x7A, 0xBA, 0xFA] ∧
    PrintingRule .chr53 0b110101#6 67 99)
  ∧ (CodeEncoding .chr54 0b110110#6 [1, 2, 4, 5] [0x1B, 0x5B, 0x9B, 0xDB] ∧
    PrintingRule .chr54 0b110110#6 75 107)
  ∧ (CodeEncoding .chr57 0b111001#6 [1, 2, 3, 6] [0x3C, 0x7C, 0xBC, 0xFC] ∧
    PrintingRule .chr57 0b111001#6 65 97)
  ∧ (CodeEncoding .chr58 0b111010#6 [1, 2, 3, 5] [0x1D, 0x5D, 0x9D, 0xDD] ∧
    PrintingRule .chr58 0b111010#6 81 113)
  ∧ (CodeEncoding .chr61 0b111101#6 [1, 2, 3, 4, 6] [0x3E, 0x7E, 0xBE, 0xFE] ∧
    PrintingRule .chr61 0b111101#6 83 115)
  ∧ (CodeEncoding .chr62 0b111110#6 [1, 2, 3, 4, 5] [0x1F, 0x5F, 0x9F, 0xDF] ∧
    PrintingRule .chr62 0b111110#6 87 119)

/-- For each of CHR02, CHR07, CHR10, CHR11, CHR14, CHR15, CHR18, CHR19: its code, channels and raw bytes; its capital
and lowercase entries, both not 0; for every state exec answers the state with the selected entry emitted and
everything else unchanged; after RESET the lowercase byte, after UC the capital byte. Formalises R106, R107, R108,
R109, R110, R111, R112, R113. -/
def Obligations.FigureCodesFirstEmit : Prop :=
  (CodeEncoding .chr02 0b000010#6 [5] [0x01, 0x41, 0x81, 0xC1] ∧
    PrintingRule .chr02 0b000010#6 41 48)
  ∧ (CodeEncoding .chr07 0b000111#6 [4, 5, 6] [0x23, 0x63, 0xA3, 0xE3] ∧
    PrintingRule .chr07 0b000111#6 95 45)
  ∧ (CodeEncoding .chr10 0b001010#6 [3, 5] [0x05, 0x45, 0x85, 0xC5] ∧
    PrintingRule .chr10 0b001010#6 42 50)
  ∧ (CodeEncoding .chr11 0b001011#6 [3, 5, 6] [0x25, 0x65, 0xA5, 0xE5] ∧
    PrintingRule .chr11 0b001011#6 61 43)
  ∧ (CodeEncoding .chr14 0b001110#6 [3, 4, 5] [0x07, 0x47, 0x87, 0xC7] ∧
    PrintingRule .chr14 0b001110#6 34 51)
  ∧ (CodeEncoding .chr15 0b001111#6 [3, 4, 5, 6] [0x27, 0x67, 0xA7, 0xE7] ∧
    PrintingRule .chr15 0b001111#6 58 59)
  ∧ (CodeEncoding .chr18 0b010010#6 [2, 5] [0x09, 0x49, 0x89, 0xC9] ∧
    PrintingRule .chr18 0b010010#6 94 52)
  ∧ (CodeEncoding .chr19 0b010011#6 [2, 5, 6] [0x29, 0x69, 0xA9, 0xE9] ∧
    PrintingRule .chr19 0b010011#6 63 47)

/-- For each of CHR22, CHR23, CHR26, CHR27, CHR30, CHR34, CHR38: its code, channels and raw bytes; its capital and
lowercase entries, both not 0; for every state exec answers the state with the selected entry emitted and everything
else unchanged; after RESET the lowercase byte, after UC the capital byte. Formalises R114, R115, R116, R117, R118,
R119, R120. -/
def Obligations.FigureCodesSecondEmit : Prop :=
  (CodeEncoding .chr22 0b010110#6 [2, 4, 5] [0x0B, 0x4B, 0x8B, 0xCB] ∧
    PrintingRule .chr22 0b010110#6 37 53)
  ∧ (CodeEncoding .chr23 0b010111#6 [2, 4, 5, 6] [0x2B, 0x6B, 0xAB, 0xEB] ∧
    PrintingRule .chr23 0b010111#6 93 46)
  ∧ (CodeEncoding .chr26 0b011010#6 [2, 3, 5] [0x0D, 0x4D, 0x8D, 0xCD] ∧
    PrintingRule .chr26 0b011010#6 36 54)
  ∧ (CodeEncoding .chr27 0b011011#6 [2, 3, 5, 6] [0x2D, 0x6D, 0xAD, 0xED] ∧
    PrintingRule .chr27 0b011011#6 91 44)
  ∧ (CodeEncoding .chr30 0b011110#6 [2, 3, 4, 5] [0x0F, 0x4F, 0x8F, 0xCF] ∧
    PrintingRule .chr30 0b011110#6 35 55)
  ∧ (CodeEncoding .chr34 0b100010#6 [1, 5] [0x11, 0x51, 0x91, 0xD1] ∧
    PrintingRule .chr34 0b100010#6 38 56)
  ∧ (CodeEncoding .chr38 0b100110#6 [1, 4, 5] [0x13, 0x53, 0x93, 0xD3] ∧
    PrintingRule .chr38 0b100110#6 40 57)

/-- For each of CHR03, CHR12, CHR16, CHR20, CHR24, CHR32, CHR63: its code, channels and raw bytes; its capital and
lowercase entries, both not 0; for every state exec answers the state with the selected entry emitted and everything
else unchanged; after RESET the lowercase byte, after UC the capital byte. Formalises R121, R122, R123, R124, R125,
R126, R127. -/
def Obligations.CaselessCodesEmit : Prop :=
  (CodeEncoding .chr03 0b000011#6 [5, 6] [0x21, 0x61, 0xA1, 0xE1] ∧
    PrintingRule .chr03 0b000011#6 32 32)
  ∧ (CodeEncoding .chr12 0b001100#6 [3, 4] [0x06, 0x46, 0x86, 0xC6] ∧
    PrintingRule .chr12 0b001100#6 15 15)
  ∧ (CodeEncoding .chr16 0b010000#6 [2] [0x08, 0x48, 0x88, 0xC8] ∧
    PrintingRule .chr16 0b010000#6 13 13)
  ∧ (CodeEncoding .chr20 0b010100#6 [2, 4] [0x0A, 0x4A, 0x8A, 0xCA] ∧
    PrintingRule .chr20 0b010100#6 8 8)
  ∧ (CodeEncoding .chr24 0b011000#6 [2, 3] [0x0C, 0x4C, 0x8C, 0xCC] ∧
    PrintingRule .chr24 0b011000#6 9 9)
  ∧ (CodeEncoding .chr32 0b100000#6 [1] [0x10, 0x50, 0x90, 0xD0] ∧
    PrintingRule .chr32 0b100000#6 39 39)
  ∧ (CodeEncoding .chr63 0b111111#6 [1, 2, 3, 4, 5, 6] [0x3F, 0x7F, 0xBF, 0xFF] ∧
    PrintingRule .chr63 0b111111#6 127 127)

/-- The start state is lowercase. For every operation and state exec answers a next state whose is_cap is false after
RESET and LC, true after UC, and unchanged after any other; each code gives the output of the general rule, RESET
gives none, and UNSCR gives its code. Derived from 41_decoder_control.md section 5 (R79, which the spec derives from
R60 and R61); 10_state.md section 4 (R14). -/
def Obligations.ShiftTransitionTable : Prop :=
  State.reset.core.isCap = false ∧
  (∀ (i : Instr) (s : State), ∃ t, exec i s = .next t ∧
    t.core.isCap = (if i = .reset ∨ i = .lc then false else if i = .uc then true else s.core.isCap)) ∧
  (∀ (c : FlexCode) (s : State), ∃ t, exec (instrOfCode c) s = .next t ∧
    t.ascOut = (if c = 0 then some 0
      else if c = 4 ∨ c = 8 then none
      else
        let v := memRead (if s.core.isCap then .romCap else .romLow) c
        if v = 0 then none else some v)) ∧
  (∀ s : State, ∃ t, exec .reset s = .next t ∧ t.ascOut = none ∧ t.flexOut = none) ∧
  ∀ (raw : RawByte) (s : State), ∃ t, exec (.unscr raw) s = .next t ∧ t.flexOut = some (unscr raw)

/-- For every code and state, exec answers a next state in which either no byte was emitted and the ASCII stream is
unchanged, or one byte was emitted and the stream is one longer by it. Of the 128 pairs 2 are NUL, 4 are shifts
without a byte, 26 are void without a byte, 96 emit a non-zero byte; 98 emit and 30 do not. Formalises R78. -/
def Obligations.ExactlyOneResultPerDecode : Prop :=
  (∀ (c : FlexCode) (s : State), ∃ t, exec (instrOfCode c) s = .next t ∧
      ((t.ascOut = none ∧ t.ascStream = s.ascStream) ∨
        ∃ v, t.ascOut = some v ∧ t.ascStream = s.ascStream ++ [v])) ∧
    decodePairs.length = 128 ∧
    pairCount (fun c r => c == 0 && r == some 0) = 2 ∧
    pairCount (fun c r => (c == 4 || c == 8) && r == none) = 4 ∧
    pairCount (fun c r => !(c == 0 || c == 4 || c == 8) && r == none) = 26 ∧
    pairCount (fun c r => !(c == 0 || c == 4 || c == 8) && r != none && r != some 0) = 96 ∧
    pairCount (fun _ r => r.isSome) = 98 ∧ pairCount (fun _ r => r.isNone) = 30

/-- A byte is emitted by some code from some state exactly when it is in the list of R39. The list has 90 distinct
values, all below 128; the values from 8 to 127 outside it are those R39 lists as never emitted, 60 and 62 among them.
Derived from 30_encoding.md section 1 (R39, whose list the spec derives from R60, R21, R22 and R25). -/
def Obligations.EmittedBytesAreTheNinety : Prop :=
  (∀ v : AsciiByte, (∃ c s t, exec (instrOfCode c) s = .next t ∧ t.ascOut = some v) ↔ v ∈ emittable) ∧
    emittable.length = 90 ∧ emittable.Nodup ∧ (∀ v ∈ emittable, v.getLsbD 7 = false) ∧
    ∀ n, 8 ≤ n → n ≤ 127 → (BitVec.ofNat 8 n ∉ emittable ↔ n ∈ neverEmitted)

/-- Exactly 41 codes emit differently in the two states; the codes 0, 4 and 8 and the void and caseless codes of the
code map do not, and UNSCR does not read the state. Derived from 30_encoding.md section 5 (R44). -/
def Obligations.ModeChangesFortyOneCodes : Prop :=
  (((List.range 64).map (BitVec.ofNat 6)).filter fun c =>
        (decodeCode c ⟨true⟩).2 != (decodeCode c ⟨false⟩).2).length = 41 ∧
    (∀ r ∈ codeMap, (r.cls = .letter ∨ r.cls = .figure) ↔
      (decodeCode r.code ⟨true⟩).2 ≠ (decodeCode r.code ⟨false⟩).2) ∧
    (∀ c ∈ [0#6, 4#6, 8#6], (decodeCode c ⟨true⟩).2 = (decodeCode c ⟨false⟩).2) ∧
    ∀ (raw : RawByte) (s u : State), ∃ t v, exec (.unscr raw) s = .next t ∧ exec (.unscr raw) u = .next v ∧
      t.flexOut = v.flexOut

/-- For any two tables that agree with ROM_CAP and ROM_LOW off the indices 0, 4 and 8, every code does from every
state what decoding over those tables gives. The dead entries are 0, 0, 0, 0, 60 and 62, and code 8 emits nothing in
either state. Derived from 20_memory.md section 3 (R25, which the spec derives from R60, R21 and R22);
92_eei_decisions.md D17. -/
def Obligations.DeadEntriesAreNeverRead : Prop :=
  (∀ cap low : FlexCode → AsciiByte,
      (∀ c, c ≠ 0 → c ≠ 4 → c ≠ 8 → cap c = memRead .romCap c ∧ low c = memRead .romLow c) →
      ∀ (c : FlexCode) (s : State), ∃ t, exec (instrOfCode c) s = .next t ∧
        t.core = (decodeWith cap low c s.core).1 ∧ t.ascOut = (decodeWith cap low c s.core).2) ∧
    memRead .romCap 0 = 0 ∧ memRead .romLow 0 = 0 ∧ memRead .romCap 4 = 0 ∧ memRead .romLow 4 = 0 ∧
    memRead .romCap 8 = 60 ∧ memRead .romLow 8 = 62 ∧
    ∀ s : State, ∃ t, exec .uc s = .next t ∧ t.ascOut = none ∧ t.ascStream = s.ascStream

/-- The 64 reads of ROM_CAP, in index order, are the list of R21, and those of ROM_LOW the list of R22. Formalises
R21, R22. -/
def Obligations.RomContentsAreTheSourceLists : Prop :=
  ((List.range 64).map fun n => (memRead .romCap (BitVec.ofNat 6 n)).toNat) =
      [0, 90, 41, 32, 0, 66, 76, 95, 60, 89, 42, 61, 15, 82, 34, 58] ++
      [13, 73, 94, 63, 8, 68, 37, 93, 9, 78, 36, 91, 0, 77, 35, 86] ++
      [39, 80, 38, 79, 0, 69, 40, 88, 0, 85, 70, 0, 0, 84, 71, 0] ++
      [0, 72, 74, 0, 0, 67, 75, 0, 0, 65, 81, 0, 0, 83, 87, 127] ∧
    ((List.range 64).map fun n => (memRead .romLow (BitVec.ofNat 6 n)).toNat) =
      [0, 122, 48, 32, 0, 98, 108, 45, 62, 121, 50, 43, 15, 114, 51, 59] ++
      [13, 105, 52, 47, 8, 100, 53, 46, 9, 110, 54, 44, 0, 109, 55, 118] ++
      [39, 112, 56, 111, 0, 101, 57, 120, 0, 117, 102, 0, 0, 116, 103, 0] ++
      [0, 104, 106, 0, 0, 99, 107, 0, 0, 97, 113, 0, 0, 115, 119, 127]

/-- The entries of ROM_CAP sum to 3176 and those of ROM_LOW to 3912; their exclusive-ors are 110 and 126; both are 0
at exactly the same fifteen indices; they differ by 32 at exactly the 26 letter codes. Derived from 95_test_vectors.md
section 5; 20_memory.md, facts after R22. -/
def Obligations.RomCheckValues : Prop :=
  (romCap.map BitVec.toNat).sum = 3176 ∧ (romLow.map BitVec.toNat).sum = 3912 ∧
    romCap.foldl (· ^^^ ·) 0 = 110 ∧ romLow.foldl (· ^^^ ·) 0 = 126 ∧
    (∀ c : FlexCode, memRead .romCap c = 0 ↔ memRead .romLow c = 0) ∧
    (∀ c : FlexCode, memRead .romCap c = 0 ↔
      c.toNat ∈ [0, 4, 28, 36, 40, 43, 44, 47, 48, 51, 52, 55, 56, 59, 60]) ∧
    (∀ r ∈ codeMap, r.cls = .letter ↔ memRead .romLow r.code = memRead .romCap r.code + 32)

/-- 94 stands only at ROM_CAP 18, 35 only at ROM_CAP 30, 38 only at ROM_CAP 34; 15 stands at index 12 of both tables
only and 127 at index 63 of both tables only. Derived from 20_memory.md section 2 (R23). -/
def Obligations.RemappedEntriesPreserved : Prop :=
  ∀ (space : Space) (c : FlexCode),
    (memRead space c = 0x5E#8 ↔ space = .romCap ∧ c = 18) ∧
    (memRead space c = 0x23#8 ↔ space = .romCap ∧ c = 30) ∧
    (memRead space c = 0x26#8 ↔ space = .romCap ∧ c = 34) ∧
    (memRead space c = 0x0F#8 ↔ c = 12) ∧
    (memRead space c = 0x7F#8 ↔ c = 63)

/-- For every core state and code, reading the combined image at the 7-bit address formed of is_cap and the code gives
the selected table at that code; the address is the code, plus 64 in capital state. The combined image is the spec's
own decision D6. Derived from 20_memory.md section 4 (R26); 92_eei_decisions.md D6. -/
def Obligations.CombinedImageIsBothTables : Prop :=
  ∀ (k : CoreState) (c : FlexCode),
    imageRead (imageAddress k c) = memRead (if k.isCap then .romCap else .romLow) c ∧
    (imageAddress k c).toNat = (if k.isCap then 64 else 0) + c.toNat

/-- The codes of the map are 0 to 63 in order, so the map is total and each code has one row; the classes have 1, 2,
13, 26, 15 and 7 members. For each row: U maps its raw byte to its code, and from every state exec of its operation
answers a next state with the byte and the is_cap of the row. Formalises R41. -/
def Obligations.CodeMapRows : Prop :=
  codeMap.map (fun r => r.code.toNat) = List.range 64 ∧
    classCount .null = 1 ∧ classCount .shift = 2 ∧ classCount .void = 13 ∧ classCount .letter = 26 ∧
    classCount .figure = 15 ∧ classCount .caseless = 7 ∧
    ∀ r ∈ codeMap, unscr r.raw = r.code ∧ r.raw.toNat < 64 ∧
      ∀ s : State, ∃ t, exec (instrOfCode r.code) s = .next t ∧
        t.ascOut = (if s.core.isCap then r.cap else r.low) ∧
        t.core.isCap = r.after.getD s.core.isCap

/-- For every operation and state exec answers a next state with the pending samples, the FlexCode stream and the step
count unchanged. UNSCR leaves the core, the ASCII line and the ASCII stream. Every operation but UNSCR and RESET
leaves the FlexCode line. Every operation but RESET, LC and UC leaves the core. RESET, LC and UC put no byte on the
ASCII line and leave the ASCII stream. Any other operation but UNSCR leaves the ASCII stream if it ends with no byte
on the ASCII line. That a code leaves the FlexCode line and UNSCR the ASCII line is the model's choice (log entry 9),
that UNSCR alone appends nothing to the FlexCode stream is its reading of R8 (log entry 6), and the pending samples
and the count are the model's own fields (log entries 1 and 8). Derived from 00_scope.md R8, R9; 10_state.md R11, R13,
R16, R17; 30_encoding.md R48; 41_decoder_control.md R61, R63, R64; 70_reset_and_hazards.md R157. -/
def Obligations.OperationsFrame : Prop :=
  ∀ (i : Instr) (s : State), ∃ t, exec i s = .next t ∧
    t.pending = s.pending ∧ t.flexStream = s.flexStream ∧ t.draw = s.draw ∧
    ((∃ raw, i = .unscr raw) → t.core = s.core ∧ t.ascOut = s.ascOut ∧ t.ascStream = s.ascStream) ∧
    ((¬ ∃ raw, i = .unscr raw) → i ≠ .reset → t.flexOut = s.flexOut) ∧
    (i ≠ .reset → i ≠ .lc → i ≠ .uc → t.core = s.core) ∧
    (i = .reset ∨ i = .lc ∨ i = .uc → t.ascOut = none ∧ t.ascStream = s.ascStream) ∧
    (t.ascOut = none → (¬ ∃ raw, i = .unscr raw) → t.ascStream = s.ascStream)

/-- If exec of an operation answers a state whose core differs, the operation is RESET, LC or UC. Two states with
different cores are told apart by DECODE(1), which emits 90 in capital and 122 in lowercase state. Derived from
10_state.md section 5 (R15). -/
def Obligations.OnlyShiftOperationsChangeIsCapAndDecodeShowsIt : Prop :=
  (∀ (i : Instr) (s t : State), exec i s = .next t → t.core ≠ s.core → i = .reset ∨ i = .lc ∨ i = .uc) ∧
  ∀ s : State, ∃ t, exec .chr01 s = .next t ∧ t.core = s.core ∧
    (t.ascOut = some 90 ↔ s.core = ⟨true⟩) ∧ (t.ascOut = some 122 ↔ s.core = ⟨false⟩)

/-- For every operation, every raw byte and every state, exec of the operation and STEP of the byte each answer a next
state; the set of faults is empty. Formalises R140. -/
def Obligations.OperationsNeverFail : Prop :=
  (∀ (i : Instr) (s : State), ∃ t, exec i s = .next t) ∧
  (∀ (raw : RawByte) (s : State), ∃ t, execStep raw s = .next t) ∧
  ∀ _ : Fault, False

/-- For every raw byte and state, STEP answers the state in which the FlexCode result is UNSCR of the byte, the
FlexCode stream has it appended as a byte, and the code is decoded by the general rule; nothing else changes. The
example of the rule holds. Formalises R130. -/
def Obligations.StepUnscramblesThenDecodes : Prop :=
  ∀ (raw : RawByte) (s : State),
    (let f := unscr raw
     let u : State := { s with flexOut := some f, flexStream := s.flexStream ++ [zext8 f] }
     execStep raw s = .next (
      if f = 0 then emitted 0 u
      else if f = 8 then { u with core := ⟨true⟩, ascOut := none }
      else if f = 4 then { u with core := ⟨false⟩, ascOut := none }
      else
        let v := memRead (if s.core.isCap then .romCap else .romLow) f
        if v = 0 then { u with ascOut := none } else emitted v u)) ∧
    (zext8 (unscr raw)).toNat ≤ 63 ∧
    ∃ t, execStep 0x38#8 { s with core := ⟨false⟩ } = .next t ∧ t.flexOut = some 0x31#6 ∧ t.ascOut = some 104 ∧
      t.flexStream = s.flexStream ++ [0x31#8] ∧ t.core = ⟨false⟩

/-- For every state and raw byte: UNSCR, DECODE of its result, and STEP all answer next states; the FlexCode of STEP
is that of UNSCR, and its ASCII result, its ASCII stream and its core are those of DECODE. Derived from 45_pipeline.md
section 1 (R137, which the spec derives from R130). -/
def Obligations.StepAddsNothingOfItsOwn : Prop :=
  ∀ (raw : RawByte) (s : State), ∃ t u v,
    exec (.unscr raw) s = .next t ∧ exec (instrOfCode (unscr raw)) s = .next u ∧ execStep raw s = .next v ∧
    v.flexOut = t.flexOut ∧ v.ascOut = u.ascOut ∧ v.ascStream = u.ascStream ∧ v.core = u.core

/-- For every raw byte and code, STEP of the byte does from every state what DECODE of the code does with that code as
the FlexCode result, exactly when the low six bits of the byte are rotr6 of the code. Four raw bytes select each code;
those of codes 0, 4 and 8 are the ones listed. Derived from 30_encoding.md section 3 (R42, which the spec derives from
R50 and R51). -/
def Obligations.RawLevelSelection : Prop :=
  (∀ (raw : RawByte) (c : FlexCode),
      (∀ s : State, execStep raw s = exec (instrOfCode c) ((s.emitFlex c).appendFlex c)) ↔
        raw.setWidth 6 = rotr6 c) ∧
    (∀ c : FlexCode, (preimages c).length = 4 ∧ (preimages c).Nodup ∧
      ∀ raw ∈ preimages c, raw &&& 0x3F#8 = zext8 (rotr6 c)) ∧
    preimages 0 = [0x00, 0x40, 0x80, 0xC0] ∧ preimages 4 = [0x02, 0x42, 0x82, 0xC2] ∧
    preimages 8 = [0x04, 0x44, 0x84, 0xC4]

/-- For every tape, every further pending samples and every state: with RESET and the bytes of the tape presented
next, the machine takes one step for each without stopping, appends to the two output streams exactly the streams of
the session, ends with the core of the session, and has only the further samples left. The empty tape gives empty
streams and lowercase. Formalises R131. -/
def Obligations.MachineRunsTheSession : Prop :=
  (∀ (tape : List RawByte) (rest : List Sample) (s : State), ∃ t : State,
      Sys2Proof.core.run (tape.length + 1) { s with pending := sessionSamples tape ++ rest } = .next t ∧
      t.flexStream = s.flexStream ++ (session tape).1 ∧
      t.ascStream = s.ascStream ++ (session tape).2.1 ∧
      t.core = (session tape).2.2 ∧ t.pending = rest) ∧
    session [] = ([], [], ⟨false⟩)

/-- For every tape the FlexCode stream of the session is the list of the codes of its bytes, each at most 63, so
exactly as long as the tape and independent of the state. The ASCII stream is as long as the tape less the bytes whose
code is 4, 8 or void. Its bytes stand in the order of the inputs: those of a first part of a tape come before those of
the rest. Two tapes of different lengths can give the same ASCII stream. Formalises R132. -/
def Obligations.SessionOutputShape : Prop :=
  (∀ (k : CoreState) (tape : List RawByte),
      (sessionFrom k tape).1 = tape.map (fun raw => zext8 (unscr raw)) ∧
      (sessionFrom k tape).1.length = tape.length ∧
      (∀ b ∈ (sessionFrom k tape).1, b.toNat ≤ 63) ∧
      (sessionFrom k tape).2.1.length +
        (tape.filter fun raw => decide ((unscr raw).toNat ∈
          [4, 8, 28, 36, 40, 43, 44, 47, 48, 51, 52, 55, 56, 59, 60])).length = tape.length) ∧
    (∀ (k : CoreState) (a b : List RawByte),
      (sessionFrom k (a ++ b)).2.1 = (sessionFrom k a).2.1 ++ (sessionFrom (sessionFrom k a).2.2 b).2.1) ∧
    ∃ a b : List RawByte, a.length ≠ b.length ∧ (session a).2.1 = (session b).2.1

/-- For any two tapes and any state, with the two sessions presented one after the other, the second appends exactly
the streams of its own tape and ends in its own core state, whatever the first did. Formalises R133. -/
def Obligations.SessionsAreIndependent : Prop :=
  ∀ (a b : List RawByte) (rest : List Sample) (s : State), ∃ t u : State,
    Sys2Proof.core.run (a.length + 1) { s with pending := sessionSamples a ++ (sessionSamples b ++ rest) } = .next t ∧
    Sys2Proof.core.run (b.length + 1) t = .next u ∧
    u.flexStream = t.flexStream ++ (session b).1 ∧ u.ascStream = t.ascStream ++ (session b).2.1 ∧
    u.core = (session b).2.2 ∧ u.pending = rest

/-- For every tape and state, with the bytes of the tape presented next and no RESET before them, the machine runs
through them without stopping and appends what decoding from its present core state gives; a tape without shift codes
read in capital state is decoded wholly in capital. Derived from 70_reset_and_hazards.md section 3 (R159);
92_eei_decisions.md D15. -/
def Obligations.MissingResetCarriesTheShift : Prop :=
  (∀ (tape : List RawByte) (rest : List Sample) (s : State), ∃ t : State,
      Sys2Proof.core.run tape.length { s with pending := tapeSamples tape ++ rest } = .next t ∧
      t.flexStream = s.flexStream ++ (sessionFrom s.core tape).1 ∧
      t.ascStream = s.ascStream ++ (sessionFrom s.core tape).2.1 ∧
      t.core = (sessionFrom s.core tape).2.2 ∧ t.pending = rest) ∧
    ∀ tape : List RawByte, (∀ raw ∈ tape, unscr raw ≠ 4 ∧ unscr raw ≠ 8) →
      (sessionFrom ⟨true⟩ tape).2.1 = tape.filterMap (fun raw => (decodeCode (unscr raw) ⟨true⟩).2) ∧
      (sessionFrom ⟨true⟩ tape).2.2 = ⟨true⟩

/-- For every length n and core state, a tape of n bytes whose code is 0 gives n NUL bytes in the ASCII stream, n zero
FlexCode bytes, and leaves the state. Formalises R162. -/
def Obligations.BlankTapeGivesNulBytes : Prop :=
  ∀ (k : CoreState) (tape : List RawByte), (∀ raw ∈ tape, raw ∈ [0x00#8, 0x40#8, 0x80#8, 0xC0#8]) →
    sessionFrom k tape = (List.replicate tape.length 0, List.replicate tape.length 0, k)

/-- For either shift code and any codes without 4 and 8 presented to D after it, from any state: the machine runs
through them without stopping, each is decoded in the state the shift code set, the shift code itself emits nothing,
and the state is still that one at the end. Formalises R160. -/
def Obligations.ShiftLatchesUntilNextShift : Prop :=
  ∀ (cap : Bool) (codes : List FlexCode) (rest : List Sample) (s : State),
    (∀ c ∈ codes, c ≠ 4 ∧ c ≠ 8) → ∃ t : State,
      Sys2Proof.core.run (codes.length + 1)
        { s with pending := .d false true (if cap then 8 else 4) :: (codes.map (fun c => .d false true c) ++ rest) }
        = .next t ∧
      t.core = ⟨cap⟩ ∧
      t.ascStream = s.ascStream ++ codes.filterMap (fun c => (decodeCode c ⟨cap⟩).2) ∧
      t.flexStream = s.flexStream ∧ t.pending = rest

/-- For every list of codes and every state, with RESET and then the codes presented to D alone, the machine runs
through them without stopping, appends the ASCII stream of the session over the raw bytes rotr6 of the codes, and ends
in its core state. A byte above 63 offered to D is refused, never masked. That D alone writes the ASCII stream is the
reading of log entry 6; the byte wrapper is decision D4. Derived from 45_pipeline.md section 4 (R135);
92_eei_decisions.md D4. -/
def Obligations.DecoderAloneMatchesSession : Prop :=
  (∀ (codes : List FlexCode) (rest : List Sample) (s : State), ∃ t : State,
      Sys2Proof.core.run (codes.length + 1)
        { s with pending := .d true false 0 :: (codes.map (fun c => .d false true c) ++ rest) } = .next t ∧
      t.ascStream = s.ascStream ++ (session (codes.map fun c => zext8 (rotr6 c))).2.1 ∧
      t.core = (session (codes.map fun c => zext8 (rotr6 c))).2.2 ∧ t.pending = rest) ∧
    ∀ (byte : BitVec 8) (rest : List Sample) (s : State),
      step { s with pending := .codeByte byte :: rest } =
        if byte.toNat ≤ 63 then exec (instrOfCode (byte.setWidth 6)) (s.beginStep rest)
        else .refused (.notAFlexCode byte)

/-- For every state whose next sample carries one port word that decodes to an operation, the step is exec of that
operation at the state with that sample taken and the result lines cleared; a composite symbol is STEP there. That
state has the core and the streams of the state before, the samples that were left, and no result pending. Derived
from 30_encoding.md section 7 (R48); 20_memory.md R31; 92_eei_decisions.md D1. -/
def Obligations.StepRunsTheDecodedWord : Prop :=
  (∀ (s : State) (sample : Sample) (rest : List Sample) (word : PortWord) (i : Instr),
      s.pending = sample :: rest → sample.word = some word → decode word = .ok i →
      step s = exec i (s.beginStep rest)) ∧
    (∀ (s : State) (raw : RawByte) (rest : List Sample), s.pending = .composite false true raw :: rest →
      step s = execStep raw (s.beginStep rest)) ∧
    ∀ (s : State) (rest : List Sample),
      s.beginStep rest = { s with pending := rest, flexOut := none, ascOut := none, draw := s.draw + 1 }

/-- For a sample of each kind and every state the step answers a next state with the other samples left. U: the
FlexCode is UNSCR of the byte and the core is unchanged. D: with rst the core is lowercase and nothing is emitted;
else with code_valid the code is decoded, asc_valid says whether a byte was emitted and asc_out is that byte; else
nothing is emitted and the core is unchanged. The composite: without rst, flex_valid is raw_valid and flex_out is
UNSCR of u_raw; with raw_valid the code of U is decoded. u_flex shows UNSCR(u_raw) whatever the valid inputs are. That
rst also keeps flex_valid at 0 is log entry 5 (R143 over the port table of R48). Derived from 30_encoding.md section 7
(R48); 60_exceptions.md R143; 92_eei_decisions.md D2, D3, D5. -/
def Obligations.PortContracts : Prop :=
  ∀ (rest : List Sample) (s : State),
    (∀ raw, (Sample.u raw).uFlex = some (unscr raw) ∧
      ∃ t, step { s with pending := .u raw :: rest } = .next t ∧
        t.flexOut = some (unscr raw) ∧ t.core = s.core ∧ t.pending = rest ∧ t.ascStream = s.ascStream) ∧
    (∀ rst codeValid c, ∃ t, step { s with pending := .d rst codeValid c :: rest } = .next t ∧
      t.pending = rest ∧ t.flexStream = s.flexStream ∧ t.flexValid = false ∧
      (rst = true → t.core = ⟨false⟩ ∧ t.ascValid = false ∧ t.ascStream = s.ascStream) ∧
      (rst = false → codeValid = true → t.core = (decodeCode c s.core).1 ∧
        t.ascValid = (decodeCode c s.core).2.isSome ∧
        t.ascStream = s.ascStream ++ (decodeCode c s.core).2.toList ∧
        ∀ v, (decodeCode c s.core).2 = some v → t.ascLines = v) ∧
      (rst = false → codeValid = false → t.core = s.core ∧ t.ascValid = false ∧ t.ascStream = s.ascStream)) ∧
    ∀ rst rawValid raw, (Sample.composite rst rawValid raw).uFlex = some (unscr raw) ∧
      ∃ t, step { s with pending := .composite rst rawValid raw :: rest } = .next t ∧ t.pending = rest ∧
      t.flexValid = (!rst && rawValid) ∧ (t.flexValid = true → t.flexOut = some (unscr raw)) ∧
      (rst = true → t.core = ⟨false⟩ ∧ t.ascValid = false) ∧
      (rst = false → rawValid = true → t.core = (decodeCode (unscr raw) s.core).1 ∧
        t.ascOut = (decodeCode (unscr raw) s.core).2 ∧ t.flexStream = s.flexStream ++ [zext8 (unscr raw)]) ∧
      (rst = false → rawValid = false → t.core = s.core ∧ t.ascValid = false ∧ t.flexStream = s.flexStream ∧
        t.ascStream = s.ascStream)

/-- For every sample of D or of the composite with rst = 1, whatever symbol it carries, and every state: the step
answers the state with is_cap false, no FlexCode and no ASCII result, both streams unchanged, and the symbol gone from
what is pending. That reset wins is the spec's own decision D3, not the source's (log entry 5). Derived from
60_exceptions.md section 3 (R143); 70_reset_and_hazards.md section 3 (R166); 92_eei_decisions.md D3. -/
def Obligations.ResetDiscardsTheSymbol : Prop :=
  ∀ (rest : List Sample) (s : State) (valid : Bool) (c : FlexCode) (raw : RawByte),
    (∃ t, step { s with pending := .d true valid c :: rest } = .next t ∧ t.core = ⟨false⟩ ∧ t.flexOut = none ∧
      t.ascOut = none ∧ t.flexStream = s.flexStream ∧ t.ascStream = s.ascStream ∧ t.pending = rest) ∧
    ∃ t, step { s with pending := .composite true valid raw :: rest } = .next t ∧ t.core = ⟨false⟩ ∧
      t.flexOut = none ∧ t.ascOut = none ∧ t.flexStream = s.flexStream ∧ t.ascStream = s.ascStream ∧
      t.pending = rest

/-- With no sample pending, or with a sample whose valid inputs are 0, the step answers a state with the core and both
streams unchanged and no result on the lines. That an empty list of samples is an idle step is the model's choice (log
entry 2). Derived from 30_encoding.md section 7 (R48); 45_pipeline.md R136. -/
def Obligations.IdleStepKeepsTheCore : Prop :=
  ∀ (rest : List Sample) (s : State) (c : FlexCode) (raw : RawByte),
    step { s with pending := [] } =
      .next { s with pending := [], flexOut := none, ascOut := none, draw := s.draw + 1 } ∧
    step { s with pending := .d false false c :: rest } =
      .next { s with pending := rest, flexOut := none, ascOut := none, draw := s.draw + 1 } ∧
    step { s with pending := .composite false false raw :: rest } =
      .next { s with pending := rest, flexOut := none, ascOut := none, draw := s.draw + 1 }

/-- For every state, either the step answers a next state, or the next sample is a byte above 63 offered as a FlexCode
and the step refuses it by name. Derived from 60_exceptions.md R140; 20_memory.md R34; 92_eei_decisions.md D4. -/
def Obligations.StepStopsOnlyOnWideCodeByte : Prop :=
  ∀ s : State, (∃ t, step s = .next t) ∨
    ∃ byte rest, s.pending = .codeByte byte :: rest ∧ 63 < byte.toNat ∧ step s = .refused (.notAFlexCode byte)

/-- From every state whose FlexCode stream holds only bytes up to 63, whose ASCII stream holds only bytes of the 90
that can be emitted, and whose emitted byte, if any, is the last of the ASCII stream, every next state of a step is
such a state again. Derived from 30_encoding.md R39; 45_pipeline.md R132; 20_memory.md R27; 00_scope.md R9. -/
def Obligations.StepKeepsOutputsLegal : Prop :=
  ∀ s t : State, OutputsLegal s → step s = .next t → OutputsLegal t

/-- The state at power-on meets OutputsLegal: each byte of its FlexCode stream is at most 63, each byte of its ASCII
stream is one of the 90 that can be emitted, and a byte on the ASCII line, if any, is the last of the ASCII stream.
What the streams hold at reset is the model's choice (log entry 11). Derived from 30_encoding.md R39; 45_pipeline.md
R132; 70_reset_and_hazards.md R157. -/
def Obligations.ResetOutputsLegal : Prop :=
  OutputsLegal State.reset

/-- Two states with the same core and the same pending samples, whatever their streams, result lines and step count:
their steps answer next states with the same core, pending samples and results, and append the same to the streams; or
both refuse for the same reason. Derived from 10_state.md section 7 (R17); 10_state.md R16. -/
def Obligations.TraceNeverFeedsBack : Prop :=
  ∀ (s : State) (fs as : List (BitVec 8)) (fo : Option FlexCode) (ao : Option AsciiByte) (d : Nat),
    (∃ t u f a, step s = .next t ∧
      step { s with flexStream := fs, ascStream := as, flexOut := fo, ascOut := ao, draw := d } = .next u ∧
      u.core = t.core ∧ u.pending = t.pending ∧ u.flexOut = t.flexOut ∧ u.ascOut = t.ascOut ∧
      t.flexStream = s.flexStream ++ f ∧ u.flexStream = fs ++ f ∧
      t.ascStream = s.ascStream ++ a ∧ u.ascStream = as ++ a) ∨
    ∃ r, step s = .refused r ∧
      step { s with flexStream := fs, ascStream := as, flexOut := fo, ascOut := ao, draw := d } = .refused r

/-- For every operation, with every operand, decode of encode is the operation, and its word is well formed. Derived
from 30_encoding.md R35, R37, R41, R47. -/
def Obligations.DecodeOfEncodeIsIdentity : Prop :=
  ∀ i : Instr, decode (encode i) = .ok i ∧ (encode i).wf = true

/-- For every port word and operation, the word decodes to the operation if and only if it is the operation's
encoding; and a word decodes to some operation if and only if it is well formed: the wire at 1, any raw byte, a code
byte up to 63 (that a wider byte is refused is the spec's decision D4, log entry 7). Derived from 30_encoding.md R41,
R43, R47; 92_eei_decisions.md D4, D8. -/
def Obligations.WordsDecodeUnambiguously : Prop :=
  (∀ (word : PortWord) (i : Instr), decode word = .ok i ↔ word = encode i) ∧
  ∀ word : PortWord, (∃ i, decode word = .ok i) ↔ word.wf = true

/-- The wire at 1 is RESET; raw byte 0x2A is UNSCR of it; codes 000000, 000100, 001000, 011100, 000001, 010010 and
111111 are NUL, LC, UC, VOID28, CHR01, CHR18 and CHR63; the wire at 0 is no operation and is rejected by name. The
byte 0x40 as a code is rejected by name too: R43 leaves a code wider than six bits to the spec's decision D4, which
refuses it and never masks it (log entry 7, DESIGN CHOICE). Derived from 30_encoding.md R35, R37, R41, R43, R47;
92_eei_decisions.md D4. -/
def Obligations.DecodedSampleWords : Prop :=
  decode (.ctrl 0b1#1) = .ok .reset ∧ decode (.raw8 0b00101010#8) = .ok (.unscr 0x2A#8) ∧
    decode (.flex6 0b00000000#8) = .ok .nul ∧ decode (.flex6 0b00000100#8) = .ok .lc ∧
    decode (.flex6 0b00001000#8) = .ok .uc ∧ decode (.flex6 0b00011100#8) = .ok .void28 ∧
    decode (.flex6 0b00000001#8) = .ok .chr01 ∧ decode (.flex6 0b00010010#8) = .ok .chr18 ∧
    decode (.flex6 0b00111111#8) = .ok .chr63 ∧
    decode (.ctrl 0b0#1) = .error .rstInactive ∧ decode (.flex6 0b01000000#8) = .error (.notAFlexCode 0x40#8)

/-- A table word of eight bits up to 63 is read as the code of that value, one from 64 to 255 as a raw byte given to
UNSCR, and the one-bit word 1 as RESET; and the step from the state with that word presented runs it. How a word
without a port is read is the model's choice (log entry 4). Derived from 92_eei_decisions.md D4, D16; 30_encoding.md
R48. -/
def Obligations.TableWordsRunWhenPresented : Prop :=
  (∀ n, n < 64 → decodeTableWord 8 n = some (instrOfCode (BitVec.ofNat 6 n)) ∧
      ∀ s : State, step (s.withFetchWord 8 n) = exec (instrOfCode (BitVec.ofNat 6 n)) (s.beginStep s.pending)) ∧
    (∀ n, 64 ≤ n → n < 256 → decodeTableWord 8 n = some (.unscr (BitVec.ofNat 8 n)) ∧
      ∀ s : State, step (s.withFetchWord 8 n) = exec (.unscr (BitVec.ofNat 8 n)) (s.beginStep s.pending)) ∧
    decodeTableWord 1 1 = some .reset ∧
    ∀ s : State, step (s.withFetchWord 1 1) = exec .reset (s.beginStep s.pending)

/-- The reset state has is_cap false and no result on the lines; from every state RESET answers a state with that core
and those lines. Formalises R19, R155, R156. -/
def Obligations.PowerOnState : Prop :=
  State.reset.core.isCap = false ∧ State.reset.flexOut = none ∧ State.reset.ascOut = none ∧
    ∀ s : State, ∃ t, exec .reset s = .next t ∧ t.core.isCap = false ∧ t.core = State.reset.core ∧
      t.flexOut = none ∧ t.ascOut = none

/-- For every code, its value is the sum of its channels 1 to 6 with weights 32, 16, 8, 4, 2 and 1. A tape row has
nine tracks, only the sixth of which carries no bit, and two raw bytes have the same row only if they are equal.
Derived from 00_scope.md R7; 30_encoding.md R36, R37; 92_eei_decisions.md D18. -/
def Obligations.ChannelsAndTapeRow : Prop :=
  (∀ c : FlexCode, c.toNat = 32 * (channel 1 c).toNat + 16 * (channel 2 c).toNat + 8 * (channel 3 c).toNat +
      4 * (channel 4 c).toNat + 2 * (channel 5 c).toNat + (channel 6 c).toNat) ∧
    (∀ (raw : RawByte) (n : Nat), (tapeRow raw)[n]? = some none ↔ n = 5) ∧
    (∀ raw : RawByte, (tapeRow raw).length = 9 ∧
      (tapeRow raw).filterMap id = [7, 6, 5, 4, 3, 2, 1, 0].map raw.getLsbD) ∧
    ∀ a b : RawByte, tapeRow a = tapeRow b → a = b

/-- With the sample of a listing line presented next: a symbol line does STEP of its canonical raw byte, whose code is
the one named; a raw line does STEP of its byte; a reset line does RESET. Derived from 30_encoding.md section 6 (R46).
-/
def Obligations.ListingLinesRunAsNamed : Prop :=
  ∀ (rest : List Sample) (s : State),
    (∀ c, unscr (canonicalRaw c) = c ∧ (canonicalRaw c).toNat < 64 ∧
      step { s with pending := assemble (.symbol c) :: rest } =
        exec (instrOfCode c) (((s.beginStep rest).emitFlex c).appendFlex c)) ∧
    (∀ raw, step { s with pending := assemble (.raw raw) :: rest } = execStep raw (s.beginStep rest)) ∧
    step { s with pending := assemble .reset :: rest } = exec .reset (s.beginStep rest)
end

