-- ==== Sys2Proof/Laws/State.lean ====
section
/-! SUPPORT. Every field after every named update of State. -/

namespace Sys2Proof.Machine

@[simp] theorem State.setCap_core (b : Bool) (s : State) : (s.setCap b).core = ⟨b⟩ := rfl
@[simp] theorem State.setCap_flexOut (b : Bool) (s : State) : (s.setCap b).flexOut = s.flexOut := rfl
@[simp] theorem State.setCap_ascOut (b : Bool) (s : State) : (s.setCap b).ascOut = s.ascOut := rfl
@[simp] theorem State.setCap_pending (b : Bool) (s : State) : (s.setCap b).pending = s.pending := rfl
@[simp] theorem State.setCap_flexStream (b : Bool) (s : State) : (s.setCap b).flexStream = s.flexStream := rfl
@[simp] theorem State.setCap_ascStream (b : Bool) (s : State) : (s.setCap b).ascStream = s.ascStream := rfl
@[simp] theorem State.setCap_draw (b : Bool) (s : State) : (s.setCap b).draw = s.draw := rfl

@[simp] theorem State.emitFlex_core (f : FlexCode) (s : State) : (s.emitFlex f).core = s.core := rfl
@[simp] theorem State.emitFlex_flexOut (f : FlexCode) (s : State) : (s.emitFlex f).flexOut = some f := rfl
@[simp] theorem State.emitFlex_ascOut (f : FlexCode) (s : State) : (s.emitFlex f).ascOut = s.ascOut := rfl
@[simp] theorem State.emitFlex_pending (f : FlexCode) (s : State) : (s.emitFlex f).pending = s.pending := rfl
@[simp] theorem State.emitFlex_flexStream (f : FlexCode) (s : State) : (s.emitFlex f).flexStream = s.flexStream := rfl
@[simp] theorem State.emitFlex_ascStream (f : FlexCode) (s : State) : (s.emitFlex f).ascStream = s.ascStream := rfl
@[simp] theorem State.emitFlex_draw (f : FlexCode) (s : State) : (s.emitFlex f).draw = s.draw := rfl

@[simp] theorem State.appendFlex_core (f : FlexCode) (s : State) : (s.appendFlex f).core = s.core := rfl
@[simp] theorem State.appendFlex_flexOut (f : FlexCode) (s : State) : (s.appendFlex f).flexOut = s.flexOut := rfl
@[simp] theorem State.appendFlex_ascOut (f : FlexCode) (s : State) : (s.appendFlex f).ascOut = s.ascOut := rfl
@[simp] theorem State.appendFlex_pending (f : FlexCode) (s : State) : (s.appendFlex f).pending = s.pending := rfl
@[simp] theorem State.appendFlex_flexStream (f : FlexCode) (s : State) : (s.appendFlex f).flexStream = s.flexStream ++ [zext8 f] := rfl
@[simp] theorem State.appendFlex_ascStream (f : FlexCode) (s : State) : (s.appendFlex f).ascStream = s.ascStream := rfl
@[simp] theorem State.appendFlex_draw (f : FlexCode) (s : State) : (s.appendFlex f).draw = s.draw := rfl

@[simp] theorem State.emitAsc_core (v : AsciiByte) (s : State) : (s.emitAsc v).core = s.core := rfl
@[simp] theorem State.emitAsc_flexOut (v : AsciiByte) (s : State) : (s.emitAsc v).flexOut = s.flexOut := rfl
@[simp] theorem State.emitAsc_ascOut (v : AsciiByte) (s : State) : (s.emitAsc v).ascOut = some v := rfl
@[simp] theorem State.emitAsc_pending (v : AsciiByte) (s : State) : (s.emitAsc v).pending = s.pending := rfl
@[simp] theorem State.emitAsc_flexStream (v : AsciiByte) (s : State) : (s.emitAsc v).flexStream = s.flexStream := rfl
@[simp] theorem State.emitAsc_ascStream (v : AsciiByte) (s : State) : (s.emitAsc v).ascStream = s.ascStream ++ [v] := rfl
@[simp] theorem State.emitAsc_draw (v : AsciiByte) (s : State) : (s.emitAsc v).draw = s.draw := rfl

@[simp] theorem State.noEmit_core (s : State) : s.noEmit.core = s.core := rfl
@[simp] theorem State.noEmit_flexOut (s : State) : s.noEmit.flexOut = s.flexOut := rfl
@[simp] theorem State.noEmit_ascOut (s : State) : s.noEmit.ascOut = none := rfl
@[simp] theorem State.noEmit_pending (s : State) : s.noEmit.pending = s.pending := rfl
@[simp] theorem State.noEmit_flexStream (s : State) : s.noEmit.flexStream = s.flexStream := rfl
@[simp] theorem State.noEmit_ascStream (s : State) : s.noEmit.ascStream = s.ascStream := rfl
@[simp] theorem State.noEmit_draw (s : State) : s.noEmit.draw = s.draw := rfl

@[simp] theorem State.clearLines_core (s : State) : s.clearLines.core = s.core := rfl
@[simp] theorem State.clearLines_flexOut (s : State) : s.clearLines.flexOut = none := rfl
@[simp] theorem State.clearLines_ascOut (s : State) : s.clearLines.ascOut = none := rfl
@[simp] theorem State.clearLines_pending (s : State) : s.clearLines.pending = s.pending := rfl
@[simp] theorem State.clearLines_flexStream (s : State) : s.clearLines.flexStream = s.flexStream := rfl
@[simp] theorem State.clearLines_ascStream (s : State) : s.clearLines.ascStream = s.ascStream := rfl
@[simp] theorem State.clearLines_draw (s : State) : s.clearLines.draw = s.draw := rfl

@[simp] theorem State.beginStep_core (rest : List Sample) (s : State) : (s.beginStep rest).core = s.core := rfl
@[simp] theorem State.beginStep_flexOut (rest : List Sample) (s : State) : (s.beginStep rest).flexOut = none := rfl
@[simp] theorem State.beginStep_ascOut (rest : List Sample) (s : State) : (s.beginStep rest).ascOut = none := rfl
@[simp] theorem State.beginStep_pending (rest : List Sample) (s : State) : (s.beginStep rest).pending = rest := rfl
@[simp] theorem State.beginStep_flexStream (rest : List Sample) (s : State) : (s.beginStep rest).flexStream = s.flexStream := rfl
@[simp] theorem State.beginStep_ascStream (rest : List Sample) (s : State) : (s.beginStep rest).ascStream = s.ascStream := rfl
@[simp] theorem State.beginStep_draw (rest : List Sample) (s : State) : (s.beginStep rest).draw = s.draw + 1 := rfl

@[simp] theorem State.reset_core : State.reset.core = ⟨false⟩ := rfl
@[simp] theorem State.reset_pending : State.reset.pending = [] := rfl

end Sys2Proof.Machine
end

