-- ==== Sys2Proof/Laws/Ops.lean ====
section
/-! SUPPORT. One lemma for each shared operation that says what it can do; later proofs cite these. -/

namespace Sys2Proof.Machine

/-- The lookup branch when the selected entry is 0. -/
theorem lookupEmit_of_zero (c : FlexCode) (s : State) (h : memRead (selectedSpace s.core) c = 0) :
    s.lookupEmit c = s.noEmit := by
  simp [State.lookupEmit, h]

/-- The lookup branch when the selected entry is a byte to emit. -/
theorem lookupEmit_of_ne_zero (c : FlexCode) (s : State) (h : memRead (selectedSpace s.core) c ≠ 0) :
    s.lookupEmit c = s.emitAsc (memRead (selectedSpace s.core) c) :=
  if_neg h

/-- The lookup branch emits nothing or one byte of the selected table, and touches nothing but the ASCII side. -/
theorem lookupEmit_cases (c : FlexCode) (s : State) :
    s.lookupEmit c = s.noEmit ∨ s.lookupEmit c = s.emitAsc (memRead (selectedSpace s.core) c) := by
  by_cases h : memRead (selectedSpace s.core) c = 0
  · exact .inl (lookupEmit_of_zero c s h)
  · exact .inr (lookupEmit_of_ne_zero c s h)

@[simp] theorem lookupEmit_core (c : FlexCode) (s : State) : (s.lookupEmit c).core = s.core := by
  rcases lookupEmit_cases c s with h | h <;> rw [h] <;> rfl

@[simp] theorem lookupEmit_flexOut (c : FlexCode) (s : State) : (s.lookupEmit c).flexOut = s.flexOut := by
  rcases lookupEmit_cases c s with h | h <;> rw [h] <;> rfl

@[simp] theorem lookupEmit_flexStream (c : FlexCode) (s : State) :
    (s.lookupEmit c).flexStream = s.flexStream := by
  rcases lookupEmit_cases c s with h | h <;> rw [h] <;> rfl

@[simp] theorem lookupEmit_pending (c : FlexCode) (s : State) : (s.lookupEmit c).pending = s.pending := by
  rcases lookupEmit_cases c s with h | h <;> rw [h] <;> rfl

@[simp] theorem lookupEmit_draw (c : FlexCode) (s : State) : (s.lookupEmit c).draw = s.draw := by
  rcases lookupEmit_cases c s with h | h <;> rw [h] <;> rfl

/-- Handing over a decode result is the write of the core, then the byte or nothing. -/
theorem deliver_some (k : CoreState) (v : AsciiByte) (s : State) :
    s.deliver (k, some v) = (s.setCap k.isCap).emitAsc v := rfl

theorem deliver_none (k : CoreState) (s : State) : s.deliver (k, none) = (s.setCap k.isCap).noEmit := rfl

@[simp] theorem deliver_core (r : CoreState × Option AsciiByte) (s : State) :
    (s.deliver r).core = r.1 := by
  rcases r with ⟨k, _ | v⟩ <;> rfl

@[simp] theorem deliver_flexOut (r : CoreState × Option AsciiByte) (s : State) :
    (s.deliver r).flexOut = s.flexOut := by
  rcases r with ⟨k, _ | v⟩ <;> rfl

@[simp] theorem deliver_ascOut (r : CoreState × Option AsciiByte) (s : State) :
    (s.deliver r).ascOut = r.2 := by
  rcases r with ⟨k, _ | v⟩ <;> rfl

@[simp] theorem deliver_pending (r : CoreState × Option AsciiByte) (s : State) :
    (s.deliver r).pending = s.pending := by
  rcases r with ⟨k, _ | v⟩ <;> rfl

@[simp] theorem deliver_flexStream (r : CoreState × Option AsciiByte) (s : State) :
    (s.deliver r).flexStream = s.flexStream := by
  rcases r with ⟨k, _ | v⟩ <;> rfl

@[simp] theorem deliver_ascStream (r : CoreState × Option AsciiByte) (s : State) :
    (s.deliver r).ascStream = s.ascStream ++ r.2.toList := by
  rcases r with ⟨k, _ | v⟩ <;> simp [State.deliver]

@[simp] theorem deliver_draw (r : CoreState × Option AsciiByte) (s : State) :
    (s.deliver r).draw = s.draw := by
  rcases r with ⟨k, _ | v⟩ <;> rfl

/-- Off the three control codes, the pure DECODE delivers what the lookup branch does. -/
theorem deliver_decodeCode_of_lookup (c : FlexCode) (s : State) (h0 : c ≠ 0) (h8 : c ≠ 8) (h4 : c ≠ 4) :
    s.deliver (decodeCode c s.core) = s.lookupEmit c := by
  simp only [decodeCode, h0, h8, h4, if_false, State.lookupEmit]
  split <;> rfl

/-- With nothing pending, the step is idle. -/
theorem step_of_nil (s : State) (h : s.pending = []) : step s = .next (s.beginStep []) := by
  simp [step, h]

/-- A step presents the first pending sample to the state with the lines cleared. -/
theorem step_of_cons (s : State) (sample : Sample) (rest : List Sample) (h : s.pending = sample :: rest) :
    step s = present sample (s.beginStep rest) := by
  simp [step, h]

/-- A composite sample with a symbol and no `rst` does `STEP`. -/
theorem present_symbol (raw : RawByte) (s : State) : present (.composite false true raw) s = execStep raw s := rfl

/-- A sample with `rst` does `RESET`, whatever else it carries. -/
theorem present_rst_composite (rawValid : Bool) (raw : RawByte) (s : State) :
    present (.composite true rawValid raw) s = execReset s := rfl

theorem present_rst_decoder (codeValid : Bool) (c : FlexCode) (s : State) :
    present (.d true codeValid c) s = execReset s := rfl

/-- A word that decodes runs its operation. -/
theorem runWord_of_ok (word : PortWord) (i : Instr) (s : State) (h : decode word = .ok i) :
    runWord word s = exec i s := by
  simp only [runWord, h]

/-- Running one step more, once the first step is known. -/
theorem run_succ_of_next (n : Nat) (s t : State) (h : step s = .next t) :
    Sys2Proof.core.run (n + 1) s = Sys2Proof.core.run n t := by
  have h' : Sys2Proof.core.step s = .next t := h
  simp only [Host.Core.run, h']

/-- One byte on top of a started session. -/
theorem sessionByte_eq (fs : List (BitVec 8)) (as : List AsciiByte) (k : CoreState) (raw : RawByte) :
    sessionByte (fs, as, k) raw =
      (fs ++ [zext8 (unscr raw)], as ++ (decodeCode (unscr raw) k).2.toList, (decodeCode (unscr raw) k).1) := rfl

end Sys2Proof.Machine
end

