-- ==== Sys2Proof/Laws/PerInstr.lean ====
section
/-! SUPPORT. One lemma per operation about its encoding. -/

namespace Sys2Proof.Laws.EncodedWord

/-- The operation's word is one the ports accept. -/
def Statement (i : Instr) : Prop := (encode i).wf = true

theorem unscr (raw : RawByte) : Statement (.unscr raw) := rfl
theorem reset : Statement .reset := rfl
theorem nul : Statement .nul := rfl
theorem chr01 : Statement .chr01 := rfl
theorem chr02 : Statement .chr02 := rfl
theorem chr03 : Statement .chr03 := rfl
theorem lc : Statement .lc := rfl
theorem chr05 : Statement .chr05 := rfl
theorem chr06 : Statement .chr06 := rfl
theorem chr07 : Statement .chr07 := rfl
theorem uc : Statement .uc := rfl
theorem chr09 : Statement .chr09 := rfl
theorem chr10 : Statement .chr10 := rfl
theorem chr11 : Statement .chr11 := rfl
theorem chr12 : Statement .chr12 := rfl
theorem chr13 : Statement .chr13 := rfl
theorem chr14 : Statement .chr14 := rfl
theorem chr15 : Statement .chr15 := rfl
theorem chr16 : Statement .chr16 := rfl
theorem chr17 : Statement .chr17 := rfl
theorem chr18 : Statement .chr18 := rfl
theorem chr19 : Statement .chr19 := rfl
theorem chr20 : Statement .chr20 := rfl
theorem chr21 : Statement .chr21 := rfl
theorem chr22 : Statement .chr22 := rfl
theorem chr23 : Statement .chr23 := rfl
theorem chr24 : Statement .chr24 := rfl
theorem chr25 : Statement .chr25 := rfl
theorem chr26 : Statement .chr26 := rfl
theorem chr27 : Statement .chr27 := rfl
theorem void28 : Statement .void28 := rfl
theorem chr29 : Statement .chr29 := rfl
theorem chr30 : Statement .chr30 := rfl
theorem chr31 : Statement .chr31 := rfl
theorem chr32 : Statement .chr32 := rfl
theorem chr33 : Statement .chr33 := rfl
theorem chr34 : Statement .chr34 := rfl
theorem chr35 : Statement .chr35 := rfl
theorem void36 : Statement .void36 := rfl
theorem chr37 : Statement .chr37 := rfl
theorem chr38 : Statement .chr38 := rfl
theorem chr39 : Statement .chr39 := rfl
theorem void40 : Statement .void40 := rfl
theorem chr41 : Statement .chr41 := rfl
theorem chr42 : Statement .chr42 := rfl
theorem void43 : Statement .void43 := rfl
theorem void44 : Statement .void44 := rfl
theorem chr45 : Statement .chr45 := rfl
theorem chr46 : Statement .chr46 := rfl
theorem void47 : Statement .void47 := rfl
theorem void48 : Statement .void48 := rfl
theorem chr49 : Statement .chr49 := rfl
theorem chr50 : Statement .chr50 := rfl
theorem void51 : Statement .void51 := rfl
theorem void52 : Statement .void52 := rfl
theorem chr53 : Statement .chr53 := rfl
theorem chr54 : Statement .chr54 := rfl
theorem void55 : Statement .void55 := rfl
theorem void56 : Statement .void56 := rfl
theorem chr57 : Statement .chr57 := rfl
theorem chr58 : Statement .chr58 := rfl
theorem void59 : Statement .void59 := rfl
theorem void60 : Statement .void60 := rfl
theorem chr61 : Statement .chr61 := rfl
theorem chr62 : Statement .chr62 := rfl
theorem chr63 : Statement .chr63 := rfl

end Sys2Proof.Laws.EncodedWord
end

