-- ==== Sys2Proof/Tests/Slice0.lean ====
section
/-! SUPPORT. Tests whose expected results come from spec/, the ill-formed words the checks refuse, and a witness for the
hypotheses of each statement that has some. -/

namespace Sys2Proof.Tests

open Sys2Proof.Machine

/-- A state in capital. -/
def capital : State := { State.reset with core := ⟨true⟩ }

/-- What a step emits on the ASCII lines, with the shift state after it: `none` if the step stops. -/
def emits (o : Host.Outcome State Fault Refusal) : Option (Option AsciiByte × Bool) :=
  match o with
  | .next t => some (t.ascOut, t.core.isCap)
  | _ => none

/-- The same for a code given to D, from a state. -/
def decodes (c : FlexCode) (s : State) : Option (Option AsciiByte × Bool) :=
  emits (step { s with pending := [.d false true c] })

/-- The operations a list of six-bit words stands for. -/
def readCodes (words : List FlexCode) : List (Option Instr) := words.map fun c => decodeTableWord 8 c.toNat

/-! Ill-formed words (WellFormed): the wire at 0, a byte with bit 6 set and a byte with bit 7 set as codes. -/

theorem test_ill_formed_ctrl : (PortWord.ctrl 0b0#1).wf = false := by decide
theorem test_ill_formed_code_bit6 : (PortWord.flex6 0b01000000#8).wf = false := by decide
theorem test_ill_formed_code_bit7 : (PortWord.flex6 0b10111111#8).wf = false := by decide
theorem test_refused_by_name : decode (.flex6 0x44#8) = .error (.notAFlexCode 0x44#8) := rfl
theorem test_step_refuses_wide_code_byte :
    step { State.reset with pending := [.codeByte 0x44#8] } = .refused (.notAFlexCode 0x44#8) := rfl

/-! Decoding, by words written out from the binary columns of the per-code rules and R47, R35. -/

theorem test_decode_reset : decode (.ctrl 0b1#1) = .ok .reset := rfl
theorem test_decode_unscr : decode (.raw8 0b11010101#8) = .ok (.unscr 0b11010101#8) := rfl

theorem test_decode_control :
    readCodes
      [0b000000, 0b000100, 0b001000] =
      [some .nul, some .lc, some .uc] := by
  decide

theorem test_decode_voids :
    readCodes
      [0b011100, 0b100100, 0b101000, 0b101011, 0b101100, 0b101111, 0b110000, 0b110011, 0b110100, 0b110111,
       0b111000, 0b111011, 0b111100] =
      [some .void28, some .void36, some .void40, some .void43, some .void44, some .void47, some .void48, some
       .void51, some .void52, some .void55, some .void56, some .void59, some .void60] := by
  decide

theorem test_decode_letters :
    readCodes
      [0b000001, 0b000101, 0b000110, 0b001001, 0b001101, 0b010001, 0b010101, 0b011001, 0b011101, 0b011111,
       0b100001, 0b100011, 0b100101, 0b100111, 0b101001, 0b101010, 0b101101, 0b101110, 0b110001, 0b110010,
       0b110101, 0b110110, 0b111001, 0b111010, 0b111101, 0b111110] =
      [some .chr01, some .chr05, some .chr06, some .chr09, some .chr13, some .chr17, some .chr21, some .chr25,
       some .chr29, some .chr31, some .chr33, some .chr35, some .chr37, some .chr39, some .chr41, some .chr42,
       some .chr45, some .chr46, some .chr49, some .chr50, some .chr53, some .chr54, some .chr57, some .chr58,
       some .chr61, some .chr62] := by
  decide

theorem test_decode_figures :
    readCodes
      [0b000010, 0b000111, 0b001010, 0b001011, 0b001110, 0b001111, 0b010010, 0b010011, 0b010110, 0b010111,
       0b011010, 0b011011, 0b011110, 0b100010, 0b100110] =
      [some .chr02, some .chr07, some .chr10, some .chr11, some .chr14, some .chr15, some .chr18, some .chr19,
       some .chr22, some .chr23, some .chr26, some .chr27, some .chr30, some .chr34, some .chr38] := by
  decide

theorem test_decode_caseless :
    readCodes
      [0b000011, 0b001100, 0b010000, 0b010100, 0b011000, 0b100000, 0b111111] =
      [some .chr03, some .chr12, some .chr16, some .chr20, some .chr24, some .chr32, some .chr63] := by
  decide

/-! One step, by the worked examples of the rules and 95_test_vectors.md. -/

/-- R50 and vectors U7, U8, U13, U18: raw bit 5 is carried round, raw bits 6 and 7 are not. -/
theorem test_unscr_vectors :
    [0x20#8, 0x40#8, 0x2A#8, 0xFF#8, 0x21#8, 0x1F#8].map unscr = [0x01, 0x00, 0x15, 0x3F, 0x03, 0x3E] := by decide
/-- S2, and the false variants of section 2: `UNSCR(0x08)` is 0x10. -/
theorem test_unscr_not_identity : unscr 0x08#8 = 0x10#6 := by decide
/-- R61: RESET from capital. -/
theorem test_reset : emits (step { capital with pending := [.d true false 0] }) = some (none, false) := by decide
/-- R62: NUL emits 0 and keeps capital. -/
theorem test_nul : decodes 0 capital = some (some 0, true) := by decide
/-- R64 and the false variants: UC from lowercase emits nothing, not 62. -/
theorem test_uc : decodes 8 State.reset = some (none, true) := by decide
/-- D-seq 4: UC in capital stays capital. -/
theorem test_uc_again : decodes 8 capital = some (none, true) := by decide
theorem test_lc : decodes 4 capital = some (none, false) := by decide
/-- R65: VOID28 gives no byte and keeps capital. -/
theorem test_void28 : decodes 28 capital = some (none, true) := by decide
/-- R80, S3: CHR01 in both states. -/
theorem test_chr01_low : decodes 1 State.reset = some (some 122, false) := by decide
theorem test_chr01_cap : decodes 1 capital = some (some 90, true) := by decide
/-- R82: the letter, not the digit 1. -/
theorem test_chr06_low : decodes 6 State.reset = some (some 108, false) := by decide
/-- S6: Delta, Pi and Sigma. -/
theorem test_chr18_cap : decodes 18 capital = some (some 94, true) := by decide
theorem test_chr30_cap : decodes 30 capital = some (some 35, true) := by decide
theorem test_chr34_cap : decodes 34 capital = some (some 38, true) := by decide
theorem test_chr34_low : decodes 34 State.reset = some (some 56, false) := by decide
/-- R127: DEL in capital keeps capital. -/
theorem test_chr63_cap : decodes 63 capital = some (some 127, true) := by decide
/-- R121 and the false variants: a space does not change the state. -/
theorem test_chr03_cap : decodes 3 capital = some (some 32, true) := by decide
/-- R130: STEP of 0x38 in lowercase emits 104. -/
theorem test_step_38 :
    step { State.reset with pending := [.composite false true 0x38#8] } =
      .next { State.reset with flexOut := some 0x31#6, ascOut := some 104, flexStream := [0x31], ascStream := [104],
                               draw := 1 } := rfl
/-- P4: raw 0x44 is UC with bit 6 set. -/
theorem test_step_44 :
    emits (step { State.reset with pending := [.composite false true 0x44#8] }) = some (none, true) := by decide
/-- P6: raw 0x04 presented with rst = 1 is lost. -/
theorem test_rst_with_symbol :
    step { State.reset with pending := [.composite true true 0x04#8] } = .next { State.reset with draw := 1 } :=
  rfl
/-- S7b and P6: sessions as functions of the tape. -/
theorem test_session_s7b : session [0x04, 0x2A, 0x00] = ([0x08, 0x15, 0x00], [68, 0], ⟨true⟩) := by decide
theorem test_session_s7a : session [0x08, 0x2A, 0x00] = ([0x10, 0x15, 0x00], [13, 100, 0], ⟨false⟩) := by decide
theorem test_session_empty : session [] = ([], [], ⟨false⟩) := by decide
/-- R46: a printing code and a void code, two decimal digits. -/
theorem test_mnemonics : [Instr.chr01, .void28, .uc].map mnemonic = ["CHR01", "VOID28", "UC"] := by decide
/-- R36: the row of raw 0x81 carries its outer tracks and nothing on the sprocket. -/
theorem test_tape_row :
    tapeRow 0x81#8 = [some true, some false, some false, some false, some false, none, some false, some false,
      some true] := by decide
/-- R80: the channels of code 1, and R68: those of code 43. -/
theorem test_channels : channelsAtOne 1 = [6] ∧ channelsAtOne 43 = [1, 3, 5, 6] := by decide

/-! Witnesses: for each statement with hypotheses, concrete values that meet them, at the ends of a range where there is
one. -/

theorem witness_UnscrIsRotationOfLowSixBits :
    0 < 5 ∧ 4 < 5 ∧ (0x44#8).setWidth 6 = (0x04#8).setWidth 6 ∧ (0x44#8) ≠ 0x04#8 := by decide
theorem witness_UnscrPreimagesAndLostBits :
    (0x00#8).toNat < 64 ∧ (0x3F#8).toNat < 64 ∧
      [0x04#8, 0xBC#8].map (fun raw => raw &&& 0x3F#8) = [0x44#8, 0x3C#8].map (fun raw => raw &&& 0x3F#8) := by
  decide
theorem witness_EmittedBytesAreTheNinety :
    (8 ≤ 8 ∧ 8 ≤ 127 ∧ BitVec.ofNat 8 8 ∈ emittable) ∧ (8 ≤ 126 ∧ 126 ≤ 127 ∧ BitVec.ofNat 8 126 ∉ emittable) ∧
      exec (instrOfCode 1) State.reset = .next (emitted 122 State.reset) :=
  ⟨by decide, by decide, rfl⟩
theorem witness_ModeChangesFortyOneCodes : (codeMap.filter fun r => r.cls == .letter).length = 26 := by decide
theorem witness_DeadEntriesAreNeverRead :
    ∀ c : FlexCode, c ≠ 0 → c ≠ 4 → c ≠ 8 →
      (if c = 8 then 1 else memRead .romCap c) = memRead .romCap c ∧ memRead .romLow c = memRead .romLow c := by
  decide
theorem witness_CodeMapRows : (codeMap.map fun r => r.code)[0]? = some 0 ∧ (codeMap.map fun r => r.code)[63]? = some 63 := by
  decide
theorem witness_OperationsFrame :
    (∃ raw, Instr.unscr 0x2A = .unscr raw) ∧ (¬ ∃ raw, Instr.nul = .unscr raw) ∧ Instr.nul ≠ .reset ∧
      Instr.nul ≠ .lc ∧ Instr.nul ≠ .uc ∧ (State.reset.noEmit.ascOut = none) :=
  ⟨⟨0x2A, rfl⟩, fun ⟨_, h⟩ => (nomatch h), by decide, by decide, by decide, rfl⟩
theorem witness_OnlyShiftOperationsChangeIsCapAndDecodeShowsIt :
    exec .uc State.reset = .next capital ∧ capital.core ≠ State.reset.core := ⟨rfl, by decide⟩
theorem witness_RawLevelSelection :
    (0x44#8).setWidth 6 = rotr6 8 ∧ 0x44#8 ∈ preimages 8 := by decide
theorem witness_MissingResetCarriesTheShift : ∀ raw ∈ [0x3C#8, 0x22#8, 0x3A#8], unscr raw ≠ 4 ∧ unscr raw ≠ 8 := by
  decide
theorem witness_BlankTapeGivesNulBytes : ∀ raw ∈ [0x00#8, 0xC0#8], raw ∈ [0x00#8, 0x40#8, 0x80#8, 0xC0#8] := by
  decide
theorem witness_ShiftLatchesUntilNextShift : ∀ c ∈ [1#6, 0#6, 28#6, 63#6], c ≠ 4 ∧ c ≠ 8 := by decide
theorem witness_StepRunsTheDecodedWord :
    ({ capital with pending := [.d false true 1] } : State).pending = .d false true 1 :: [] ∧
      (Sample.d false true 1).word = some (.flex6 0x01#8) ∧ decode (.flex6 0x01#8) = .ok .chr01 ∧
      ({ capital with pending := [.composite false true 0x3C#8] } : State).pending =
        .composite false true 0x3C#8 :: [] := ⟨rfl, rfl, rfl, rfl⟩
/-- Each case of the port contracts: rst, a valid symbol that emits, and neither. -/
theorem witness_PortContracts :
    (decodeCode 1 capital.core).2 = some 90 ∧
      emits (step { capital with pending := [.d false false 1] }) = some (none, true) ∧
      emits (step { capital with pending := [.composite false true 0x20#8] }) = some (some 90, true) ∧
      emits (step { capital with pending := [.composite false false 0x20#8] }) = some (none, true) := by decide
theorem witness_StepKeepsOutputsLegal :
    OutputsLegal { State.reset with pending := [.composite false true 0x38#8] } ∧
      ∃ t, step { State.reset with pending := [.composite false true 0x38#8] } = .next t ∧ t.ascStream = [104] :=
  ⟨⟨by decide, by decide, nofun⟩, _, rfl, by decide⟩
theorem witness_TableWordsRunWhenPresented :
    decodeTableWord 8 0 = some .nul ∧ decodeTableWord 8 63 = some .chr63 ∧
      decodeTableWord 8 64 = some (.unscr 0x40) ∧ decodeTableWord 8 255 = some (.unscr 0xFF) := by decide

end Sys2Proof.Tests
end

section
/-! SUPPORT. The 64 codes as operations: every operation but UNSCR and RESET is `instrOfCode` of exactly one code
(30_encoding.md R41), and `exec` of it delivers what the pure DECODE of R60 answers. -/

namespace Sys2Proof.Machine

/-- The port word of a code's operation is the code itself in a byte, so that word tells the operations apart. -/
theorem encode_instrOfCode : ∀ c : FlexCode, encode (instrOfCode c) = .flex6 (zext8 c) := by decide

@[simp] theorem setWidth_zext8 (c : FlexCode) : (zext8 c).setWidth 6 = c :=
  BitVec.setWidth_setWidth_of_le c (by decide) |>.trans (BitVec.setWidth_eq c)

theorem zext8_injective : Function.Injective zext8 :=
  Function.LeftInverse.injective setWidth_zext8

theorem instrOfCode_injective : Function.Injective instrOfCode := by
  intro c d h
  have hword : PortWord.flex6 (zext8 c) = .flex6 (zext8 d) := by
    rw [← encode_instrOfCode, ← encode_instrOfCode, h]
  exact zext8_injective (PortWord.flex6.inj hword)

@[simp] theorem instrOfCode_ne_unscr (c : FlexCode) (raw : RawByte) : instrOfCode c ≠ .unscr raw := fun h =>
  PortWord.noConfusion ((encode_instrOfCode c).symm.trans (congrArg encode h))

@[simp] theorem instrOfCode_ne_reset (c : FlexCode) : instrOfCode c ≠ .reset := fun h =>
  PortWord.noConfusion ((encode_instrOfCode c).symm.trans (congrArg encode h))

@[simp] theorem instrOfCode_eq_lc_iff (c : FlexCode) : instrOfCode c = .lc ↔ c = 4 :=
  instrOfCode_injective.eq_iff (b := 4)

@[simp] theorem instrOfCode_eq_uc_iff (c : FlexCode) : instrOfCode c = .uc ↔ c = 8 :=
  instrOfCode_injective.eq_iff (b := 8)

theorem exists_instrOfCode_of_mem_codeTable {i : Instr} (h : i ∈ codeTable) : ∃ c, i = instrOfCode c := by
  obtain ⟨n, hn, rfl⟩ := List.getElem_of_mem h
  exact ⟨BitVec.ofNatLT n hn, rfl⟩

/-- Every operation is UNSCR of a byte, RESET, or the DECODE of a code (R41). -/
theorem instr_cases (i : Instr) : (∃ raw, i = .unscr raw) ∨ i = .reset ∨ ∃ c, i = instrOfCode c := by
  cases i
  case unscr raw => exact .inl ⟨raw, rfl⟩
  case reset => exact .inr (.inl rfl)
  all_goals exact .inr (.inr (exists_instrOfCode_of_mem_codeTable (by decide)))

/-- An operation whose port word carries a code takes the lookup branch of R60 at that code, unless it is the null code
or a shift. -/
theorem exec_of_encode_of_lookup {i : Instr} {byte : BitVec 8} {c : FlexCode} (s : State)
    (hword : encode i = .flex6 byte) (hc : byte.setWidth 6 = c) (h0 : c ≠ 0) (h8 : c ≠ 8) (h4 : c ≠ 4) :
    exec i s = .next (s.lookupEmit c) := by
  subst hc
  cases i <;> cases hword
  case nul => exact absurd rfl h0
  case lc => exact absurd rfl h4
  case uc => exact absurd rfl h8
  all_goals rfl

/-- Every code but the null code and the two shifts takes the lookup branch of R60. -/
theorem exec_instrOfCode_of_lookup (c : FlexCode) (s : State) (h0 : c ≠ 0) (h8 : c ≠ 8) (h4 : c ≠ 4) :
    exec (instrOfCode c) s = .next (s.lookupEmit c) :=
  exec_of_encode_of_lookup s (encode_instrOfCode c) (setWidth_zext8 c) h0 h8 h4

/-- The operation of a code does what the pure DECODE says (R60). -/
theorem exec_instrOfCode (c : FlexCode) (s : State) :
    exec (instrOfCode c) s = .next (s.deliver (decodeCode c s.core)) := by
  by_cases h0 : c = 0
  · subst h0; rfl
  by_cases h8 : c = 8
  · subst h8; rfl
  by_cases h4 : c = 4
  · subst h4; rfl
  rw [exec_instrOfCode_of_lookup c s h0 h8 h4, deliver_decodeCode_of_lookup c s h0 h8 h4]

/-- Only the shift codes write the core's bit (R60, R63, R64). -/
theorem decodeCode_core_of_ne_shift (c : FlexCode) (k : CoreState) (h8 : c ≠ 8) (h4 : c ≠ 4) :
    (decodeCode c k).1 = k := by
  simp only [decodeCode, h8, h4, if_false]
  split
  · rfl
  · split <;> rfl

/-- A shift code emits nothing, from either core state (R63, R64). -/
theorem decodeCode_byte_of_shift {c : FlexCode} (k : CoreState) (h : c = 4 ∨ c = 8) : (decodeCode c k).2 = none := by
  rcases h with rfl | rfl <;> rfl

/-- A decode that ends with no byte on the ASCII line has appended none to the ASCII stream (R9). -/
theorem deliver_ascStream_of_ascOut_none (r : CoreState × Option AsciiByte) (s : State)
    (h : (s.deliver r).ascOut = none) : (s.deliver r).ascStream = s.ascStream := by
  rw [deliver_ascOut] at h
  simp [h]

end Sys2Proof.Machine
end

section
/-! SUPPORT. The tape row (30_encoding.md R36): where the sprocket track stands, and the bits the other tracks carry. -/

namespace Sys2Proof.Machine

theorem tapeTracks_eq_sprocket_iff (n : Nat) : tapeTracks[n]? = some none ↔ n = 5 := by
  constructor
  · intro h
    have hn : n < 9 := (List.getElem?_eq_some_iff.mp h).1
    have hscan : ∀ m < 9, tapeTracks[m]? = some none → m = 5 := by decide
    exact hscan n hn h
  · rintro rfl
    rfl

/-- The bits a row carries, from its first track to its last. -/
theorem tapeRow_data (raw : RawByte) :
    (tapeRow raw).filterMap id = [7, 6, 5, 4, 3, 2, 1, 0].map raw.getLsbD := rfl

theorem tapeRow_injective : Function.Injective tapeRow := by
  intro a b h
  have hbits : [7, 6, 5, 4, 3, 2, 1, 0].map a.getLsbD = [7, 6, 5, 4, 3, 2, 1, 0].map b.getLsbD := by
    rw [← tapeRow_data, ← tapeRow_data, h]
  refine BitVec.eq_of_getLsbD_eq fun k hk => List.map_inj_left.mp hbits k ?_
  simp only [List.mem_cons]
  omega

/-- A code is its six channels read as a binary number, channel 1 first (R7, R37). -/
theorem toNat_eq_channels : ∀ c : FlexCode,
    c.toNat = 32 * (channel 1 c).toNat + 16 * (channel 2 c).toNat + 8 * (channel 3 c).toNat +
      4 * (channel 4 c).toNat + 2 * (channel 5 c).toNat + (channel 6 c).toNat := by decide

end Sys2Proof.Machine
end

section
namespace Sys2Proof.Proofs

open Machine

/-- Settles O28: UNSCR and RESET write the state directly, and every other operation delivers a decode. -/
theorem operationsFrame : Obligations.OperationsFrame := by
  intro i s
  rcases instr_cases i with ⟨raw, rfl⟩ | rfl | ⟨c, rfl⟩
  · exact ⟨s.emitFlex (unscr raw), rfl, by simp⟩
  · exact ⟨(s.setCap false).clearLines, rfl, by simp⟩
  · refine ⟨_, exec_instrOfCode c s, deliver_pending .., deliver_flexStream .., deliver_draw .., ?_, ?_, ?_, ?_, ?_⟩
    · rintro ⟨raw, h⟩
      exact absurd h (instrOfCode_ne_unscr c raw)
    · intro _ _
      exact deliver_flexOut ..
    · intro _ hlc huc
      rw [deliver_core, decodeCode_core_of_ne_shift c s.core (by simpa using huc) (by simpa using hlc)]
    · intro h
      have hbyte : (decodeCode c s.core).2 = none := decodeCode_byte_of_shift s.core (by simpa using h)
      simp [hbyte]
    · intro h _
      exact deliver_ascStream_of_ascOut_none _ s h

/-- Settles O54: the weights by the 64 codes, the row by its tracks. -/
theorem channelsAndTapeRow : Obligations.ChannelsAndTapeRow := by
  refine ⟨toNat_eq_channels, fun raw n => ?_, fun raw => ⟨rfl, tapeRow_data raw⟩, fun a b h => tapeRow_injective h⟩
  rw [← tapeTracks_eq_sprocket_iff]
  simp [tapeRow]

end Sys2Proof.Proofs
end

section
/-! SUPPORT. A step reads the core and the pending samples only (10_state.md R16, R17): it does from any state what it
does from power-on with that core and those samples, put after the streams that state already holds. -/

namespace Sys2Proof.Machine

/-- The state with streams that came before its own, and a step count of its own. -/
def State.withPast (fs : List (BitVec 8)) (as : List AsciiByte) (d : Nat) (s : State) : State :=
  { s with flexStream := fs ++ s.flexStream, ascStream := as ++ s.ascStream, draw := d }

/-- The power-on state with a core and pending samples given to it. -/
def State.freshWith (k : CoreState) (samples : List Sample) : State :=
  { State.reset with core := k, pending := samples }

/-- Change the next state of an outcome that has one. -/
def mapNext (g : State → State) : Host.Outcome State Fault Refusal → Host.Outcome State Fault Refusal
  | .next s => .next (g s)
  | .fault r => .fault r
  | .refused r => .refused r

variable (fs : List (BitVec 8)) (as : List AsciiByte) (d : Nat)

@[simp] theorem withPast_core (s : State) : (s.withPast fs as d).core = s.core := rfl
@[simp] theorem withPast_flexOut (s : State) : (s.withPast fs as d).flexOut = s.flexOut := rfl
@[simp] theorem withPast_ascOut (s : State) : (s.withPast fs as d).ascOut = s.ascOut := rfl
@[simp] theorem withPast_pending (s : State) : (s.withPast fs as d).pending = s.pending := rfl

@[simp] theorem withPast_flexStream (s : State) : (s.withPast fs as d).flexStream = fs ++ s.flexStream := rfl
@[simp] theorem withPast_ascStream (s : State) : (s.withPast fs as d).ascStream = as ++ s.ascStream := rfl

theorem appendFlex_withPast (f : FlexCode) (s : State) :
    (s.withPast fs as d).appendFlex f = (s.appendFlex f).withPast fs as d := by
  simp [State.appendFlex, State.withPast]

theorem emitAsc_withPast (v : AsciiByte) (s : State) :
    (s.withPast fs as d).emitAsc v = (s.emitAsc v).withPast fs as d := by
  simp [State.emitAsc, State.withPast]

theorem deliver_withPast (r : CoreState × Option AsciiByte) (s : State) :
    (s.withPast fs as d).deliver r = (s.deliver r).withPast fs as d := by
  rcases r with ⟨k, _ | v⟩
  · rfl
  · exact emitAsc_withPast fs as d v { s with core := k }

/-- No operation reads the streams or the step count. -/
theorem exec_withPast (i : Instr) (s : State) :
    exec i (s.withPast fs as d) = mapNext (State.withPast fs as d) (exec i s) := by
  rcases instr_cases i with ⟨raw, rfl⟩ | rfl | ⟨c, rfl⟩
  · rfl
  · rfl
  · rw [exec_instrOfCode, exec_instrOfCode, withPast_core, deliver_withPast, mapNext]

theorem execStep_withPast (raw : RawByte) (s : State) :
    execStep raw (s.withPast fs as d) = mapNext (State.withPast fs as d) (execStep raw s) := by
  have hemit (f : FlexCode) : (s.withPast fs as d).emitFlex f = (s.emitFlex f).withPast fs as d := rfl
  rw [execStep, hemit, appendFlex_withPast, exec_withPast, execStep]

theorem runWord_withPast (word : PortWord) (s : State) :
    runWord word (s.withPast fs as d) = mapNext (State.withPast fs as d) (runWord word s) := by
  rcases h : decode word with (_ | byte) | i
  · simp [runWord, h, mapNext]
  · simp [runWord, h, mapNext]
  · rw [runWord_of_ok word i _ h, runWord_of_ok word i _ h, exec_withPast]

/-- A sample that asks for a single operation runs its port word. -/
theorem present_of_word {sample : Sample} {word : PortWord} (s : State) (h : sample.word = some word) :
    present sample s = runWord word s := by
  unfold present
  split
  · exact nomatch h
  · simp only [h]

theorem present_withPast (sample : Sample) (s : State) :
    present sample (s.withPast fs as d) = mapNext (State.withPast fs as d) (present sample s) := by
  cases h : sample.word with
  | some word => rw [present_of_word _ h, present_of_word _ h, runWord_withPast]
  | none =>
    rcases sample with raw | ⟨_ | _, _ | _, c⟩ | ⟨_ | _, _ | _, raw⟩ | byte
    case d.false.false | composite.false.false => rfl
    case composite.false.true => exact execStep_withPast fs as d raw s
    all_goals exact nomatch h

/-- A step does what it does from power-on with the same core and samples; the rest of the state is only carried. -/
theorem step_eq_mapNext_freshWith (s : State) :
    step s = mapNext (State.withPast s.flexStream s.ascStream (s.draw + 1)) (step (State.freshWith s.core s.pending)) := by
  have hbegin (rest : List Sample) : s.beginStep rest = ((State.freshWith s.core s.pending).beginStep rest).withPast
      s.flexStream s.ascStream (s.draw + 1) := by
    simp [State.beginStep, State.clearLines, State.freshWith, State.reset, State.withPast]
  cases h : s.pending with
  | nil => rw [step_of_nil s h, step_of_nil _ rfl, hbegin, h, mapNext]
  | cons sample rest => rw [step_of_cons s sample rest h, step_of_cons _ sample rest rfl, hbegin, h, present_withPast]

end Sys2Proof.Machine
end

section
/-! SUPPORT. The letter code 1 tells the two core states apart (R15). -/

namespace Sys2Proof.Machine

theorem decodeCode_one (k : CoreState) : decodeCode 1 k = (k, some (if k.isCap then 90 else 122)) := by
  rcases k with ⟨_ | _⟩ <;> rfl

theorem exec_chr01 (s : State) :
    exec .chr01 s = .next (s.deliver (s.core, some (if s.core.isCap then 90 else 122))) := by
  rw [← decodeCode_one]
  exact exec_instrOfCode 1 s

end Sys2Proof.Machine
end

section
namespace Sys2Proof.Proofs

open Machine

/-- Settles O29: the frame of the operations leaves only RESET, LC and UC, and the two entries of code 1 differ. -/
theorem onlyShiftOperationsChangeIsCapAndDecodeShowsIt :
    Obligations.OnlyShiftOperationsChangeIsCapAndDecodeShowsIt := by
  refine ⟨fun i s t ht hne => ?_, fun s => ⟨_, exec_chr01 s, deliver_core .., ?_⟩⟩
  · obtain ⟨t', ht', -, -, -, -, -, hcore, -⟩ := operationsFrame i s
    obtain rfl : t' = t := Host.Outcome.next.inj (ht'.symm.trans ht)
    refine Decidable.byContradiction fun hother => ?_
    simp only [not_or] at hother
    obtain ⟨hreset, hlc, huc⟩ := hother
    exact hne (hcore hreset hlc huc)
  · rw [deliver_ascOut]
    rcases s.core with ⟨_ | _⟩ <;> decide

/-- Settles O48: both steps are the same step from power-on, each put after its own streams. -/
theorem traceNeverFeedsBack : Obligations.TraceNeverFeedsBack := by
  intro s fs as fo ao d
  rw [step_eq_mapNext_freshWith s, step_eq_mapNext_freshWith
    { s with flexStream := fs, ascStream := as, flexOut := fo, ascOut := ao, draw := d }]
  cases step (State.freshWith s.core s.pending) with
  | next v => exact .inl ⟨_, _, v.flexStream, v.ascStream, rfl, rfl, by simp⟩
  | fault r => exact nomatch r
  | refused r => exact .inr ⟨r, rfl, rfl⟩

/-- Settles O53: the fields of the reset state, and what RESET writes. -/
theorem powerOnState : Obligations.PowerOnState :=
  ⟨rfl, rfl, rfl, fun s => ⟨(s.setCap false).clearLines, rfl, by simp⟩⟩

end Sys2Proof.Proofs
end

section
/-! SUPPORT. The two tables as memories (20_memory.md): a read of each by its index, and where the entries that a rule
names stand. -/

namespace Sys2Proof.Machine

/-- The table that is an address space. -/
def tableOf : Space → List AsciiByte
  | .romCap => romCap
  | .romLow => romLow

theorem tableOf_length (space : Space) : (tableOf space).length = 64 := by
  cases space <;> rfl

/-- A read is the entry at the code's own value (R24). -/
theorem memRead_eq_getElem_tableOf (space : Space) (c : FlexCode) :
    memRead space c = (tableOf space)[c.toNat]'(by rw [tableOf_length]; exact c.isLt) := by
  cases space <;> rfl

/-- The reads at the codes in order give back the table. -/
theorem map_memRead_range (space : Space) :
    (List.range 64).map (fun n => memRead space (BitVec.ofNat 6 n)) = tableOf space := by
  refine List.ext_getElem (by simp [tableOf_length]) fun n hn _ => ?_
  have hlt : n < 64 := by simpa using hn
  simp [memRead_eq_getElem_tableOf, Nat.mod_eq_of_lt hlt]

/-- Both tables are 0 at the null code, at LC and at the void codes, and nowhere else. -/
theorem memRead_eq_zero_iff (space : Space) : ∀ c : FlexCode, memRead space c = 0 ↔
    c.toNat ∈ [0, 4, 28, 36, 40, 43, 44, 47, 48, 51, 52, 55, 56, 59, 60] := by
  cases space <;> decide

/-- The capital table holds each remapped graphic once (R23). -/
theorem memRead_romCap_eq_graphic_iff : ∀ c : FlexCode,
    (memRead .romCap c = 0x5E#8 ↔ c = 18) ∧ (memRead .romCap c = 0x23#8 ↔ c = 30) ∧
      (memRead .romCap c = 0x26#8 ↔ c = 34) := by decide

/-- The lowercase table holds none of the remapped graphics (R23). -/
theorem memRead_romLow_ne_graphic : ∀ c : FlexCode,
    memRead .romLow c ≠ 0x5E#8 ∧ memRead .romLow c ≠ 0x23#8 ∧ memRead .romLow c ≠ 0x26#8 := by decide

/-- Each table holds each remapped control byte once, at the same code (R23). -/
theorem memRead_eq_control_iff (space : Space) : ∀ c : FlexCode,
    (memRead space c = 0x0F#8 ↔ c = 12) ∧ (memRead space c = 0x7F#8 ↔ c = 63) := by
  cases space <;> decide

end Sys2Proof.Machine
end

section
/-! SUPPORT. The table that the core's bit selects: as a choice of two reads (R24), as a half of the combined image (R26),
and as two tables given from outside, of which DECODE reads nothing at 0, 4 and 8 (R25). -/

namespace Sys2Proof.Machine

theorem memRead_selectedSpace (k : CoreState) (c : FlexCode) :
    memRead (selectedSpace k) c = if k.isCap then memRead .romCap c else memRead .romLow c := by
  rcases k with ⟨_ | _⟩ <;> rfl

/-- The core's bit is the top bit of the address, so the capital half starts at 64 (R26). -/
theorem imageAddress_toNat (k : CoreState) (c : FlexCode) :
    (imageAddress k c).toNat = (if k.isCap then 64 else 0) + c.toNat := by
  rw [imageAddress, BitVec.toNat_append, ← Nat.shiftLeft_add_eq_or_of_lt c.isLt, CoreState.readCap]
  cases k.isCap <;> rfl

theorem imageRead_imageAddress (k : CoreState) (c : FlexCode) :
    imageRead (imageAddress k c) = memRead (selectedSpace k) c := by
  simp only [imageRead, romImage, imageAddress_toNat]
  rcases k with ⟨_ | _⟩
  · have hlow : c.toNat < romLow.length := c.isLt
    simp [List.getElem_append_left hlow, memRead, selectedSpace, CoreState.readCap]
  · have hcap : romLow.length ≤ 64 + c.toNat := Nat.le_add_right 64 _
    simp [List.getElem_append_right hcap, romLow_length, memRead, selectedSpace, CoreState.readCap]

/-- DECODE over two given tables is the machine's DECODE as soon as they hold its entries off 0, 4 and 8 (R25). -/
theorem decodeWith_eq_decodeCode {cap low : FlexCode → AsciiByte}
    (hagree : ∀ c, c ≠ 0 → c ≠ 4 → c ≠ 8 → cap c = memRead .romCap c ∧ low c = memRead .romLow c)
    (c : FlexCode) (k : CoreState) : decodeWith cap low c k = decodeCode c k := by
  by_cases h0 : c = 0
  · subst h0; rfl
  by_cases h8 : c = 8
  · subst h8; rfl
  by_cases h4 : c = 4
  · subst h4; rfl
  obtain ⟨hcap, hlow⟩ := hagree c h0 h4 h8
  simp only [decodeWith, decodeCode, h0, h8, h4, if_false, hcap, hlow, memRead_selectedSpace]

end Sys2Proof.Machine
end

section
namespace Sys2Proof.Proofs

open Machine

/-- Settles O22: DECODE over the two given tables is the machine's DECODE, whose result `exec` delivers. -/
theorem deadEntriesAreNeverRead : Obligations.DeadEntriesAreNeverRead := by
  refine ⟨fun cap low hagree c s => ?_, rfl, rfl, rfl, rfl, rfl, rfl, fun s => ⟨(s.setCap true).noEmit, rfl, by simp⟩⟩
  rw [decodeWith_eq_decodeCode hagree]
  exact ⟨_, exec_instrOfCode c s, deliver_core .., deliver_ascOut ..⟩

/-- Settles O23: the reads in order give back each table, whose entries are the list's. -/
theorem romContentsAreTheSourceLists : Obligations.RomContentsAreTheSourceLists := by
  have hreads (space : Space) : (List.range 64).map (fun n => (memRead space (BitVec.ofNat 6 n)).toNat) =
      (tableOf space).map BitVec.toNat := by
    rw [← map_memRead_range, List.map_map]
    rfl
  exact ⟨hreads .romCap, hreads .romLow⟩

/-- Settles O24: the totals by evaluation of the lists, the zero indices by one fact about both tables, and the letters
row by row. -/
theorem romCheckValues : Obligations.RomCheckValues := by
  refine ⟨rfl, rfl, rfl, rfl, fun c => ?_, memRead_eq_zero_iff .romCap, by decide⟩
  rw [memRead_eq_zero_iff, memRead_eq_zero_iff]

/-- Settles O25: the graphics stand in the capital table only, the control bytes in both. -/
theorem remappedEntriesPreserved : Obligations.RemappedEntriesPreserved := by
  intro space c
  obtain ⟨hshift, hdel⟩ := memRead_eq_control_iff space c
  cases space with
  | romCap =>
    obtain ⟨hDelta, hPi, hSigma⟩ := memRead_romCap_eq_graphic_iff c
    simp [hDelta, hPi, hSigma, hshift, hdel]
  | romLow =>
    obtain ⟨hDelta, hPi, hSigma⟩ := memRead_romLow_ne_graphic c
    simp [hDelta, hPi, hSigma, hshift, hdel]

/-- Settles O26: the address picks the half of the image that is the selected table. -/
theorem combinedImageIsBothTables : Obligations.CombinedImageIsBothTables :=
  fun k c => ⟨imageRead_imageAddress k c, imageAddress_toNat k c⟩

end Sys2Proof.Proofs
end

section
/-! SUPPORT. Port words (30_encoding.md R35, R37, R47): a byte up to 63 is a code in a byte, and the decoder and the
encoder undo one another on the well-formed words. -/

namespace Sys2Proof.Machine

theorem zext8_toNat (c : FlexCode) : (zext8 c).toNat = c.toNat :=
  BitVec.toNat_setWidth_of_le (by decide)

theorem zext8_toNat_le (c : FlexCode) : (zext8 c).toNat ≤ 63 := by
  rw [zext8_toNat]
  exact Nat.le_of_lt_succ c.isLt

/-- A byte up to 63 is a code in a byte (R27). -/
theorem zext8_setWidth_of_le {byte : BitVec 8} (h : byte.toNat ≤ 63) : zext8 (byte.setWidth 6) = byte := by
  apply BitVec.eq_of_toNat_eq
  rw [zext8_toNat, BitVec.toNat_setWidth]
  omega

theorem decode_code (c : FlexCode) : decode (.flex6 (zext8 c)) = .ok (instrOfCode c) := by
  simp [decode, zext8_toNat_le]

theorem decode_encode (i : Instr) : decode (encode i) = .ok i := by
  rcases instr_cases i with ⟨raw, rfl⟩ | rfl | ⟨c, rfl⟩
  · rfl
  · rfl
  · rw [encode_instrOfCode, decode_code]

theorem wf_encode (i : Instr) : (encode i).wf = true := by
  rcases instr_cases i with ⟨raw, rfl⟩ | rfl | ⟨c, rfl⟩
  · rfl
  · rfl
  · rw [encode_instrOfCode]
    exact decide_eq_true (zext8_toNat_le c)

/-- The well-formed words are the words of the operations. -/
theorem exists_encode_of_wf {word : PortWord} (h : word.wf = true) : ∃ i, word = encode i := by
  cases word with
  | ctrl rst => exact ⟨.reset, congrArg PortWord.ctrl (eq_of_beq h)⟩
  | raw8 raw => exact ⟨.unscr raw, rfl⟩
  | flex6 byte =>
    refine ⟨instrOfCode (byte.setWidth 6), ?_⟩
    rw [encode_instrOfCode, zext8_setWidth_of_le (of_decide_eq_true h)]

theorem wf_of_decode {word : PortWord} {i : Instr} (h : decode word = .ok i) : word.wf = true := by
  cases word with
  | ctrl rst =>
    by_cases hrst : rst = 1#1
    · exact beq_iff_eq.mpr hrst
    · simp [decode, hrst] at h
  | raw8 raw => rfl
  | flex6 byte =>
    by_cases hbyte : byte.toNat ≤ 63
    · exact decide_eq_true hbyte
    · simp [decode, hbyte] at h

theorem decode_eq_ok_iff (word : PortWord) (i : Instr) : decode word = .ok i ↔ word = encode i := by
  constructor
  · intro h
    obtain ⟨j, rfl⟩ := exists_encode_of_wf (wf_of_decode h)
    obtain rfl : j = i := Except.ok.inj ((decode_encode j).symm.trans h)
    rfl
  · rintro rfl
    exact decode_encode i

end Sys2Proof.Machine
end

section
/-! SUPPORT. What a step can do: begin, and then nothing, one operation, or `STEP` of a byte (30_encoding.md R48). -/

namespace Sys2Proof.Machine

/-- A word that is answered asks for nothing or runs an operation. -/
theorem runWord_next_cases {word : PortWord} {s t : State} (h : runWord word s = .next t) :
    t = s ∨ ∃ i, exec i s = .next t := by
  rcases hword : decode word with (_ | byte) | i
  · simp only [runWord, hword] at h
    exact .inl (Host.Outcome.next.inj h).symm
  · simp only [runWord, hword] at h
    exact nomatch h
  · exact .inr ⟨i, (runWord_of_ok word i s hword).symm.trans h⟩

theorem present_next_cases {sample : Sample} {s t : State} (h : present sample s = .next t) :
    t = s ∨ (∃ i, exec i s = .next t) ∨ ∃ raw, execStep raw s = .next t := by
  unfold present at h
  split at h
  next raw => exact .inr (.inr ⟨raw, h⟩)
  next =>
    split at h
    next => exact (runWord_next_cases h).imp_right .inl
    next => exact .inl (Host.Outcome.next.inj h).symm

theorem step_next_cases {s t : State} (h : step s = .next t) :
    ∃ rest, t = s.beginStep rest ∨ (∃ i, exec i (s.beginStep rest) = .next t) ∨
      ∃ raw, execStep raw (s.beginStep rest) = .next t := by
  cases hs : s.pending with
  | nil =>
    rw [step_of_nil s hs] at h
    exact ⟨[], .inl (Host.Outcome.next.inj h).symm⟩
  | cons sample rest =>
    rw [step_of_cons s sample rest hs] at h
    exact ⟨rest, present_next_cases h⟩

end Sys2Proof.Machine
end

section
/-! SUPPORT. The bytes DECODE emits are the list of R39, and the operations keep the outputs legal. -/

namespace Sys2Proof.Machine

theorem exists_memRead_of_mem_tableOf {space : Space} {v : AsciiByte} (h : v ∈ tableOf space) :
    ∃ c, memRead space c = v := by
  obtain ⟨n, hn, rfl⟩ := List.getElem_of_mem h
  exact ⟨BitVec.ofNatLT n (Nat.lt_of_lt_of_eq hn (tableOf_length space)), memRead_eq_getElem_tableOf ..⟩

/-- Every entry is in the list of R39 but the dead one of UC. -/
theorem memRead_mem_emittable_iff (space : Space) : ∀ c : FlexCode, memRead space c ∈ emittable ↔ c ≠ 8 := by
  cases space <;> decide

/-- Every byte of the list of R39 is an entry of one of the tables. -/
theorem exists_memRead_of_mem_emittable {v : AsciiByte} (h : v ∈ emittable) : ∃ space c, memRead space c = v := by
  have htables : emittable ⊆ romLow ++ romCap := by decide
  rcases List.mem_append.mp (htables h) with hlow | hcap
  · exact ⟨.romLow, exists_memRead_of_mem_tableOf hlow⟩
  · exact ⟨.romCap, exists_memRead_of_mem_tableOf hcap⟩

/-- A byte that DECODE emits is the constant 0 or an entry other than the dead one of UC (R25, R60). -/
theorem decodeCode_byte_cases {c : FlexCode} {k : CoreState} {v : AsciiByte} (h : (decodeCode c k).2 = some v) :
    v = 0 ∨ c ≠ 8 ∧ v = memRead (selectedSpace k) c := by
  by_cases h0 : c = 0
  · subst h0
    exact .inl (Option.some.inj h).symm
  by_cases h8 : c = 8
  · exact nomatch (decodeCode_byte_of_shift k (.inr h8)).symm.trans h
  by_cases h4 : c = 4
  · exact nomatch (decodeCode_byte_of_shift k (.inl h4)).symm.trans h
  refine .inr ⟨h8, ?_⟩
  simp only [decodeCode, h0, h8, h4, if_false] at h
  split at h
  · exact nomatch h
  · exact (Option.some.inj h).symm

/-- Every entry but the dead one of UC is emitted: a 0 by the null code, any other by its own code. -/
theorem exists_decodeCode_eq_memRead (space : Space) {c : FlexCode} (h8 : c ≠ 8) :
    ∃ d k, (decodeCode d k).2 = some (memRead space c) := by
  by_cases hzero : memRead space c = 0
  · exact ⟨0, ⟨false⟩, by rw [hzero]; rfl⟩
  have h0 : c ≠ 0 := by
    rintro rfl
    exact hzero (by cases space <;> rfl)
  have h4 : c ≠ 4 := by
    rintro rfl
    exact hzero (by cases space <;> rfl)
  have hspace : selectedSpace ⟨space == .romCap⟩ = space := by cases space <;> rfl
  refine ⟨c, ⟨space == .romCap⟩, ?_⟩
  simp only [decodeCode, h0, h8, h4, if_false, hspace, hzero]

/-- DECODE emits exactly the bytes of the list of R39. -/
theorem exists_decodeCode_iff_mem_emittable (v : AsciiByte) :
    (∃ c k, (decodeCode c k).2 = some v) ↔ v ∈ emittable := by
  constructor
  · rintro ⟨c, k, h⟩
    rcases decodeCode_byte_cases h with rfl | ⟨h8, rfl⟩
    · exact List.mem_cons_self
    · exact (memRead_mem_emittable_iff _ c).mpr h8
  · intro h
    obtain ⟨space, c, rfl⟩ := exists_memRead_of_mem_emittable h
    exact exists_decodeCode_eq_memRead space ((memRead_mem_emittable_iff space c).mp h)

theorem outputsLegal_beginStep {s : State} (rest : List Sample) (h : OutputsLegal s) :
    OutputsLegal (s.beginStep rest) := by
  obtain ⟨hflex, hasc, -⟩ := h
  exact ⟨hflex, hasc, nofun⟩

/-- A FlexCode handed over and put into its stream is a byte up to 63. -/
theorem outputsLegal_appendFlex {s : State} (f : FlexCode) (h : OutputsLegal s) :
    OutputsLegal ((s.emitFlex f).appendFlex f) := by
  obtain ⟨hflex, hrest⟩ := h
  refine ⟨fun b hb => ?_, hrest⟩
  rcases List.mem_append.mp hb with hb | hb
  · exact hflex b hb
  · rw [List.mem_singleton.mp hb]
    exact zext8_toNat_le f

theorem outputsLegal_deliver {s : State} {r : CoreState × Option AsciiByte} (h : OutputsLegal s)
    (hr : ∀ v, r.2 = some v → v ∈ emittable) : OutputsLegal (s.deliver r) := by
  obtain ⟨hflex, hasc, -⟩ := h
  refine ⟨by simpa using hflex, fun v hv => ?_, fun v hv => ?_⟩
  · rw [deliver_ascStream, List.mem_append, Option.mem_toList] at hv
    exact hv.elim (hasc v) (hr v)
  · rw [deliver_ascOut] at hv
    simp [hv]

theorem outputsLegal_exec {i : Instr} {s t : State} (h : OutputsLegal s) (ht : exec i s = .next t) :
    OutputsLegal t := by
  rcases instr_cases i with ⟨raw, rfl⟩ | rfl | ⟨c, rfl⟩
  · obtain rfl := Host.Outcome.next.inj ht
    exact h
  · obtain rfl := Host.Outcome.next.inj ht
    obtain ⟨hflex, hasc, -⟩ := h
    exact ⟨hflex, hasc, nofun⟩
  · rw [exec_instrOfCode] at ht
    obtain rfl := Host.Outcome.next.inj ht
    exact outputsLegal_deliver h fun v hv => (exists_decodeCode_iff_mem_emittable v).mp ⟨c, s.core, hv⟩

end Sys2Proof.Machine
end

section
/-! SUPPORT. The code map of R41 row by row, as DECODE reads it. -/

namespace Sys2Proof.Machine

/-- What DECODE gives at the code of a row: the row's byte for the core's state, and the row's `is_cap`. -/
theorem decodeCode_of_mem_codeMap {r : CodeRow} (hr : r ∈ codeMap) (k : CoreState) :
    decodeCode r.code k = (⟨r.after.getD k.isCap⟩, if k.isCap then r.cap else r.low) := by
  have hscan : ∀ r ∈ codeMap, ∀ cap : Bool,
      decodeCode r.code ⟨cap⟩ = (⟨r.after.getD cap⟩, if cap then r.cap else r.low) := by decide
  exact hscan r hr k.isCap

/-- The raw byte of a row is the canonical one of its code. -/
theorem raw_of_mem_codeMap : ∀ r ∈ codeMap, r.raw = canonicalRaw r.code := by decide

end Sys2Proof.Machine
end

section
/-! SUPPORT. Which raw bytes U maps to a code (30_encoding.md R42, 40_unscrambler.md R51). -/

namespace Sys2Proof.Machine

theorem rotl6_rotr6 : ∀ c : FlexCode, rotl6 (rotr6 c) = c := by decide

theorem rotr6_rotl6 : ∀ c : FlexCode, rotr6 (rotl6 c) = c := by decide

/-- U is the rotation of the low six bits (R51). -/
theorem unscr_eq_rotl6 : ∀ raw : RawByte, unscr raw = rotl6 (raw.setWidth 6) := by decide

/-- U maps a byte to a code exactly when its low six bits are the code rotated back (R42). -/
theorem unscr_eq_iff (raw : RawByte) (c : FlexCode) : unscr raw = c ↔ raw.setWidth 6 = rotr6 c := by
  rw [unscr_eq_rotl6]
  constructor
  · rintro rfl
    rw [rotr6_rotl6]
  · intro h
    rw [h, rotl6_rotr6]

@[simp] theorem unscr_canonicalRaw (c : FlexCode) : unscr (canonicalRaw c) = c :=
  (unscr_eq_iff _ _).mpr (setWidth_zext8 _)

theorem canonicalRaw_toNat_lt (c : FlexCode) : (canonicalRaw c).toNat < 64 :=
  Nat.lt_succ_of_le (zext8_toNat_le _)

/-- The four preimages are one byte shifted by the four values of bits 7 and 6. -/
theorem preimages_eq_map (c : FlexCode) :
    preimages c = [0x00#8, 0x40#8, 0x80#8, 0xC0#8].map (canonicalRaw c + ·) := by
  simp [preimages]

theorem nodup_preimages (c : FlexCode) : (preimages c).Nodup := by
  rw [preimages_eq_map]
  have hhighs : [0x00#8, 0x40#8, 0x80#8, 0xC0#8].Nodup := by decide
  exact List.Pairwise.map _ (fun _ _ hne heq => hne ((BitVec.add_right_inj (canonicalRaw c)).mp heq)) hhighs

theorem setWidth_of_mem_preimages {c : FlexCode} {raw : RawByte} (h : raw ∈ preimages c) :
    raw.setWidth 6 = rotr6 c := by
  rw [preimages_eq_map] at h
  obtain ⟨high, hhigh, rfl⟩ := List.mem_map.mp h
  have hzero : high.setWidth 6 = 0#6 := by
    simp only [List.mem_cons, List.not_mem_nil, or_false] at hhigh
    rcases hhigh with rfl | rfl | rfl | rfl <;> rfl
  rw [BitVec.setWidth_add _ _ (by decide), hzero, canonicalRaw, setWidth_zext8, BitVec.add_zero]

/-- Masking a byte with `0x3F` keeps its low six bits. -/
theorem and_low_six (raw : RawByte) : raw &&& 0x3F#8 = zext8 (raw.setWidth 6) := by
  apply BitVec.eq_of_toNat_eq
  rw [zext8_toNat, BitVec.toNat_and, BitVec.toNat_setWidth]
  exact Nat.and_two_pow_sub_one_eq_mod raw.toNat 6

end Sys2Proof.Machine
end

section
/-! SUPPORT. The step with a given sample next (30_encoding.md R46, R48). -/

namespace Sys2Proof.Machine

/-- A sample put in front of the pending ones is what the step presents. -/
theorem step_with_pending (s : State) (sample : Sample) (rest : List Sample) :
    step { s with pending := sample :: rest } = present sample (s.beginStep rest) := rfl

/-- A code on `code_in` with `code_valid` and no `rst` is decoded. -/
theorem present_code (c : FlexCode) (s : State) :
    present (.d false true c) s = .next (s.deliver (decodeCode c s.core)) :=
  (runWord_of_ok _ _ s (decode_code c)).trans (exec_instrOfCode c s)

/-- `STEP` hands over U's code, puts it into the FlexCode stream, and delivers its decode. -/
theorem execStep_eq_deliver (raw : RawByte) (s : State) :
    execStep raw s =
      .next (((s.emitFlex (unscr raw)).appendFlex (unscr raw)).deliver (decodeCode (unscr raw) s.core)) :=
  exec_instrOfCode ..

/-- A well-formed word put on its port is what the sample asks for. -/
theorem word_sampleOf {word : PortWord} (h : word.wf = true) : (sampleOf word).word = some word := by
  cases word with
  | ctrl rst =>
    obtain rfl : rst = 1#1 := eq_of_beq h
    rfl
  | raw8 raw => rfl
  | flex6 byte => rfl

theorem present_sampleOf_encode (i : Instr) (s : State) : present (sampleOf (encode i)) s = exec i s := by
  rw [present_of_word s (word_sampleOf (wf_encode i)), runWord_of_ok _ i s (decode_encode i)]

/-- A table word that is read as an operation's word decodes to the operation, and runs it when presented. -/
theorem tableWord_runs {nbits w : Nat} {i : Instr} (h : tableWord nbits w = encode i) :
    decodeTableWord nbits w = some i ∧ ∀ s : State, step (s.withFetchWord nbits w) = exec i (s.beginStep s.pending) := by
  refine ⟨by rw [decodeTableWord, h, decode_encode], fun s => ?_⟩
  rw [State.withFetchWord, h, step_with_pending, present_sampleOf_encode]

/-- A table word of eight bits up to 63 is the word of a code. -/
theorem tableWord_of_lt_64 {n : Nat} (h : n < 64) : tableWord 8 n = encode (instrOfCode (BitVec.ofNat 6 n)) := by
  have hbyte : zext8 (BitVec.ofNat 6 n) = BitVec.ofNat 8 n := by
    apply BitVec.eq_of_toNat_eq
    rw [zext8_toNat, BitVec.toNat_ofNat, BitVec.toNat_ofNat]
    omega
  have hle : (BitVec.ofNat 8 n).toNat ≤ 63 := hbyte ▸ zext8_toNat_le _
  have hmod : n % 2 ^ 8 = n := by omega
  simp only [tableWord, hmod, hle, encode_instrOfCode, hbyte]
  rfl

/-- A table word of eight bits from 64 on is the word of UNSCR of that byte. -/
theorem tableWord_of_ge_64 {n : Nat} (h : 64 ≤ n) (hn : n < 256) :
    tableWord 8 n = encode (.unscr (BitVec.ofNat 8 n)) := by
  have hmod : n % 2 ^ 8 = n := by omega
  have hgt : ¬ (BitVec.ofNat 8 n).toNat ≤ 63 := by
    rw [BitVec.toNat_ofNat]
    omega
  simp only [tableWord, hmod, hgt]
  rfl

end Sys2Proof.Machine
end

section
namespace Sys2Proof.Proofs

open Machine

/-- Settles O46: a step begins, and then does nothing, one operation, or an operation with its FlexCode put into the
stream; each keeps the outputs legal. -/
theorem stepKeepsOutputsLegal : Obligations.StepKeepsOutputsLegal := by
  intro s t h ht
  obtain ⟨rest, rfl | ⟨i, hi⟩ | ⟨raw, hraw⟩⟩ := step_next_cases ht
  · exact outputsLegal_beginStep rest h
  · exact outputsLegal_exec (outputsLegal_beginStep rest h) hi
  · exact outputsLegal_exec (outputsLegal_appendFlex _ (outputsLegal_beginStep rest h)) hraw

/-- Settles O50: the well-formed words are the words of the operations, which the decoder reads back. -/
theorem wordsDecodeUnambiguously : Obligations.WordsDecodeUnambiguously := by
  refine ⟨decode_eq_ok_iff, fun word => ⟨fun ⟨i, h⟩ => wf_of_decode h, fun h => ?_⟩⟩
  obtain ⟨i, rfl⟩ := exists_encode_of_wf h
  exact ⟨i, decode_encode i⟩

/-- Settles O20: `exec` of a code emits what DECODE answers, and DECODE answers exactly the bytes of the list. -/
theorem emittedBytesAreTheNinety : Obligations.EmittedBytesAreTheNinety := by
  refine ⟨fun v => ?_, rfl, by decide, fun v hv => ?_, fun n h8 h127 => ?_⟩
  · rw [← exists_decodeCode_iff_mem_emittable]
    constructor
    · rintro ⟨c, s, t, ht, hv⟩
      rw [exec_instrOfCode] at ht
      obtain rfl := Host.Outcome.next.inj ht
      exact ⟨c, s.core, (deliver_ascOut ..).symm.trans hv⟩
    · rintro ⟨c, k, hv⟩
      exact ⟨c, State.freshWith k [], _, exec_instrOfCode .., (deliver_ascOut ..).trans hv⟩
  · have hscan : emittable.all (fun v => v.getLsbD 7 == false) = true := by decide
    exact eq_of_beq (List.all_eq_true.mp hscan v hv)
  · have hscan : ∀ n < 128, 8 ≤ n → (BitVec.ofNat 8 n ∉ emittable ↔ n ∈ neverEmitted) := by decide
    exact hscan n (Nat.lt_succ_of_le h127) h8

/-- Settles O27: each row is what DECODE answers at its code, and its raw byte is the canonical one. -/
theorem codeMapRows : Obligations.CodeMapRows := by
  refine ⟨by decide, rfl, rfl, rfl, rfl, rfl, rfl, fun r hr => ?_⟩
  rw [raw_of_mem_codeMap r hr]
  refine ⟨unscr_canonicalRaw _, canonicalRaw_toNat_lt _, fun s => ⟨_, exec_instrOfCode .., ?_⟩⟩
  simp [decodeCode_of_mem_codeMap hr]

/-- Settles O33: the two sides differ on the FlexCode line unless U maps the byte to the code. -/
theorem rawLevelSelection : Obligations.RawLevelSelection := by
  refine ⟨fun raw c => ?_, fun c => ⟨rfl, nodup_preimages c, fun raw h => ?_⟩, rfl, rfl, rfl⟩
  · rw [← unscr_eq_iff]
    refine ⟨fun h => ?_, ?_⟩
    · have hstates := Host.Outcome.next.inj ((execStep_eq_deliver raw _).symm.trans
        ((h State.reset).trans (exec_instrOfCode c _)))
      simpa using congrArg State.flexOut hstates
    · rintro rfl s
      rfl
  · rw [and_low_six, setWidth_of_mem_preimages h]

/-- Settles O42: each sample is idle, RESET, UNSCR, a decode, or `STEP`, and the fields follow. -/
theorem portContracts : Obligations.PortContracts := by
  intro rest s
  refine ⟨fun raw => ⟨rfl, _, rfl, by simp⟩, fun rst codeValid c => ?_, fun rst rawValid raw => ⟨rfl, ?_⟩⟩
  · rw [step_with_pending]
    rcases rst with _ | _
    · rcases codeValid with _ | _
      · exact ⟨s.beginStep rest, rfl, by simp [State.flexValid, State.ascValid]⟩
      · refine ⟨_, present_code .., ?_⟩
        simp +contextual [State.flexValid, State.ascValid, State.ascLines]
    · exact ⟨((s.beginStep rest).setCap false).clearLines, rfl, by simp [State.flexValid, State.ascValid]⟩
  · rw [step_with_pending]
    rcases rst with _ | _
    · rcases rawValid with _ | _
      · exact ⟨s.beginStep rest, rfl, by simp [State.flexValid, State.ascValid]⟩
      · refine ⟨_, execStep_eq_deliver .., ?_⟩
        simp [State.flexValid]
    · exact ⟨((s.beginStep rest).setCap false).clearLines, rfl, by simp [State.flexValid, State.ascValid]⟩

/-- Settles O21: a row's two bytes differ for the letters and the figures only, and UNSCR reads no state. -/
theorem modeChangesFortyOneCodes : Obligations.ModeChangesFortyOneCodes := by
  refine ⟨by decide, fun r hr => ?_, by decide, fun raw s u => ⟨_, _, rfl, rfl, rfl⟩⟩
  have hbytes : ∀ r ∈ codeMap, (r.cls = .letter ∨ r.cls = .figure) ↔ r.cap ≠ r.low := by decide
  rw [decodeCode_of_mem_codeMap hr, decodeCode_of_mem_codeMap hr]
  exact hbytes r hr

/-- Settles O41: a sample with a word runs the word, and a word that decodes runs its operation. -/
theorem stepRunsTheDecodedWord : Obligations.StepRunsTheDecodedWord := by
  refine ⟨fun s sample rest word i hs hword hi => ?_, fun s raw rest hs => ?_, fun s rest => rfl⟩
  · rw [step_of_cons s sample rest hs, present_of_word _ hword, runWord_of_ok word i _ hi]
  · rw [step_of_cons s _ rest hs, present_symbol]

/-- Settles O44: with nothing valid the step only begins. -/
theorem idleStepKeepsTheCore : Obligations.IdleStepKeepsTheCore :=
  fun _ _ _ _ => ⟨rfl, rfl, rfl⟩

/-- Settles O47: the streams and the lines are empty at power-on. -/
theorem resetOutputsLegal : Obligations.ResetOutputsLegal :=
  ⟨nofun, nofun, nofun⟩

/-- Settles O49: the decoder reads back the encoder's words, all of them well formed. -/
theorem decodeOfEncodeIsIdentity : Obligations.DecodeOfEncodeIsIdentity :=
  fun i => ⟨decode_encode i, wf_encode i⟩

/-- Settles O51: each word is its operation's, and the two ill-formed words are refused by evaluation. -/
theorem decodedSampleWords : Obligations.DecodedSampleWords :=
  ⟨decode_encode .reset, decode_encode (.unscr 0x2A#8), decode_encode .nul, decode_encode .lc, decode_encode .uc,
    decode_encode .void28, decode_encode .chr01, decode_encode .chr18, decode_encode .chr63, rfl, rfl⟩

/-- Settles O52: each table word is read as the word of an operation. -/
theorem tableWordsRunWhenPresented : Obligations.TableWordsRunWhenPresented :=
  ⟨fun _ h => tableWord_runs (tableWord_of_lt_64 h), fun _ h hn => tableWord_runs (tableWord_of_ge_64 h hn),
    tableWord_runs (i := .reset) rfl⟩

/-- Settles O55: a listing line is a composite sample, and U maps the canonical raw byte to its code. -/
theorem listingLinesRunAsNamed : Obligations.ListingLinesRunAsNamed := by
  refine fun rest s => ⟨fun c => ⟨unscr_canonicalRaw c, canonicalRaw_toNat_lt c, ?_⟩, fun raw => rfl, rfl⟩
  rw [step_with_pending, assemble, present_symbol, execStep, unscr_canonicalRaw]

end Sys2Proof.Proofs
end

section
/-! SUPPORT. U as arithmetic on the byte (40_unscrambler.md R50), as its wiring (R51), and what it loses: bits 7 and 6
of the byte (R52, R54). -/

namespace Sys2Proof.Machine

/-- Bit 6 of a byte, tested with the mask of R50. -/
theorem and_bit_six_ne_zero_iff (byte : BitVec 8) : byte &&& 0x40#8 ≠ 0#8 ↔ byte.toNat / 64 % 2 = 1 := by
  have hmask : byte &&& 0x40#8 = if byte.getLsbD 6 then 0x40#8 else 0#8 := BitVec.and_twoPow byte 6
  have hbit : byte.getLsbD 6 = decide (byte.toNat / 64 % 2 = 1) := Nat.testBit_eq_decide_div_mod_eq
  rw [hmask, hbit]
  by_cases h : byte.toNat / 64 % 2 = 1 <;> simp [h]

/-- The mask of R50 keeps a byte modulo 64. -/
theorem toNat_setWidth_and_low_six (byte : BitVec 8) : ((byte &&& 0x3F#8).setWidth 6).toNat = byte.toNat % 64 := by
  rw [and_low_six, setWidth_zext8, BitVec.toNat_setWidth]

/-- U in integer arithmetic (R50). -/
theorem unscr_toNat (raw : RawByte) : (unscr raw).toNat =
    (if 2 * raw.toNat % 256 / 64 % 2 = 1 then 2 * raw.toNat % 256 ||| 1 else 2 * raw.toNat % 256) % 64 := by
  have hshift : (raw <<< 1).toNat = 2 * raw.toNat % 256 := by
    rw [BitVec.toNat_shiftLeft, Nat.shiftLeft_eq]
    omega
  rw [unscr, toNat_setWidth_and_low_six]
  simp only [and_bit_six_ne_zero_iff, hshift]
  split
  · rw [BitVec.toNat_or, hshift]
    rfl
  · rw [hshift]

/-- The two pieces of the rotation: bit 5 of the code at bit 0, and its bits 4 to 0 from bit 1 on (R7). -/
theorem rotl6_getLsbD (c : FlexCode) (k : Nat) : (rotl6 c).getLsbD k =
    if k < 1 then (c.extractLsb' 5 1).getLsbD k else (c.extractLsb' 0 5).getLsbD (k - 1) :=
  BitVec.getLsbD_append

theorem rotl6_getLsbD_succ (c : FlexCode) {k : Nat} (hk : k < 5) : (rotl6 c).getLsbD (k + 1) = c.getLsbD k := by
  simp [rotl6_getLsbD, hk]

theorem rotl6_getLsbD_zero (c : FlexCode) : (rotl6 c).getLsbD 0 = c.getLsbD 5 := by
  rw [rotl6_getLsbD]
  simp

/-- U tells two bytes apart exactly when their low six bits differ (R51). -/
theorem unscr_eq_unscr_iff (a b : RawByte) : unscr a = unscr b ↔ a.setWidth 6 = b.setWidth 6 := by
  rw [unscr_eq_iff, unscr_eq_rotl6 b, rotr6_rotl6]

/-- Adding bit 6 leaves the low six bits, so U has period 64 (R52). -/
theorem unscr_add_bit_six (raw : RawByte) : unscr (raw + 0x40#8) = unscr raw := by
  rw [unscr_eq_unscr_iff, BitVec.setWidth_add _ _ (by decide)]
  exact BitVec.add_zero _

theorem unscr_and_low_six (raw : RawByte) : unscr (raw &&& 0x3F#8) = unscr raw := by
  rw [unscr_eq_unscr_iff, and_low_six, setWidth_zext8]

/-- The transcribed table, entry for entry (R52). -/
theorem unscrLookup_eq : ∀ raw : RawByte, unscrLookup raw = some (unscr raw) := by decide

theorem canonicalRaw_unscr (raw : RawByte) : canonicalRaw (unscr raw) = zext8 (raw.setWidth 6) := by
  rw [canonicalRaw, unscr_eq_rotl6, rotr6_rotl6]

/-- A byte is its low six bits plus one of the four values of bits 7 and 6. -/
theorem exists_low_add_high (raw : RawByte) :
    ∃ high ∈ [0x00#8, 0x40#8, 0x80#8, 0xC0#8], zext8 (raw.setWidth 6) + high = raw := by
  have hmem : ∀ q < 4, BitVec.ofNat 8 (64 * q) ∈ [0x00#8, 0x40#8, 0x80#8, 0xC0#8] := by decide
  have hraw : raw.toNat < 256 := raw.isLt
  refine ⟨_, hmem (raw.toNat / 64) (by omega), BitVec.eq_of_toNat_eq ?_⟩
  rw [BitVec.toNat_add, zext8_toNat, BitVec.toNat_setWidth, BitVec.toNat_ofNat]
  omega

/-- The four preimages of a code are all the bytes U maps to it (R54). -/
theorem unscr_eq_iff_mem_preimages (raw : RawByte) (c : FlexCode) : unscr raw = c ↔ raw ∈ preimages c := by
  constructor
  · rintro rfl
    rw [preimages_eq_map, canonicalRaw_unscr]
    exact List.mem_map.mpr (exists_low_add_high raw)
  · intro h
    exact (unscr_eq_iff raw c).mpr (setWidth_of_mem_preimages h)

end Sys2Proof.Machine
end

section
/-! SUPPORT. A session reads its tape through U only (45_pipeline.md R131, R135). -/

namespace Sys2Proof.Machine

theorem decodeCodes_append_singleton (k : CoreState) (codes : List FlexCode) (c : FlexCode) :
    decodeCodes k (codes ++ [c]) =
      ((decodeCodes k codes).1 ++ (decodeCode c (decodeCodes k codes).2).2.toList,
        (decodeCode c (decodeCodes k codes).2).1) := by
  rw [decodeCodes, List.foldl_append]
  rfl

theorem sessionFrom_append_singleton (k : CoreState) (tape : List RawByte) (raw : RawByte) :
    sessionFrom k (tape ++ [raw]) = sessionByte (sessionFrom k tape) raw := by
  rw [sessionFrom, List.foldl_append]
  rfl

/-- A session's FlexCode stream is the codes of its tape, and the rest of it is D used alone on them. -/
theorem sessionFrom_eq_decodeCodes (k : CoreState) (tape : List RawByte) :
    sessionFrom k tape = ((tape.map unscr).map zext8, decodeCodes k (tape.map unscr)) := by
  rw [← List.reverse_reverse tape]
  generalize tape.reverse = lastFirst
  induction lastFirst with
  | nil => rfl
  | cons raw earlier ih =>
    rw [List.reverse_cons, sessionFrom_append_singleton, ih, sessionByte_eq, List.map_append, List.map_append,
      List.map_singleton, decodeCodes_append_singleton]
    rfl

/-- A tape's codes are those of its bytes with bits 7 and 6 cleared (R161). -/
theorem map_unscr_map_and_low_six (tape : List RawByte) :
    (tape.map fun raw => raw &&& 0x3F#8).map unscr = tape.map unscr := by
  rw [List.map_map]
  exact List.map_congr_left fun raw _ => unscr_and_low_six raw

end Sys2Proof.Machine
end

section
namespace Sys2Proof.Proofs

open Machine

/-- Settles O4: a byte is a canonical byte plus bits 7 and 6, and a session reads its tape through U. -/
theorem unscrPreimagesAndLostBits : Obligations.UnscrPreimagesAndLostBits := by
  refine ⟨unscr_eq_iff_mem_preimages, fun c => ⟨nodup_preimages c, unscr_canonicalRaw c⟩, fun raw h => ?_,
    fun a b hab k => ?_⟩
  · exact (canonicalRaw_unscr raw).trans (zext8_setWidth_of_le (Nat.le_of_lt_succ h))
  · have hcodes : a.map unscr = b.map unscr := by
      rw [← map_unscr_map_and_low_six a, hab, map_unscr_map_and_low_six]
    rw [sessionFrom_eq_decodeCodes, sessionFrom_eq_decodeCodes, hcodes]

/-- Settles O2: U is the rotation, whose result bits are read off its two pieces. -/
theorem unscrIsRotationOfLowSixBits : Obligations.UnscrIsRotationOfLowSixBits := by
  refine fun raw => ⟨unscr_eq_rotl6 raw, fun k hk => ?_, ?_, fun other => (unscr_eq_unscr_iff other raw).mpr⟩
  · rw [unscr_eq_rotl6, rotl6_getLsbD_succ _ hk, BitVec.getLsbD_setWidth, decide_eq_true (Nat.lt_succ_of_lt hk),
      Bool.true_and]
  · rw [unscr_eq_rotl6, rotl6_getLsbD_zero, BitVec.getLsbD_setWidth]
    rfl

/-- Settles O1: the three steps as arithmetic, and the rule's own examples by evaluation. -/
theorem unscrThreeSteps : Obligations.UnscrThreeSteps :=
  ⟨fun raw _ => ⟨rfl, unscr_toNat raw⟩, rfl, rfl, rfl, rfl, rfl, rfl⟩

/-- Settles O3: the table is U entry for entry, and U has period 64. -/
theorem unscrTableAgrees : Obligations.UnscrTableAgrees := by
  refine fun raw => ⟨unscrLookup_eq raw, ?_⟩
  rw [unscrLookup_eq, unscrLookup_eq, unscr_add_bit_six]

/-- Settles O5: the code is U's, whatever the state. -/
theorem unscrIsPureAndTotal : Obligations.UnscrIsPureAndTotal :=
  fun raw => ⟨unscr raw, Nat.le_of_lt_succ (unscr raw).isLt, fun s =>
    ⟨s.emitFlex (unscr raw), rfl, State.emitFlex_flexOut _ s, State.emitFlex_core _ s⟩⟩

end Sys2Proof.Proofs
end

section
/-! SUPPORT. The general rule of DECODE (41_decoder_control.md R60), field by field of its result: the core's bit (R79),
the byte, and the ASCII stream (R78). -/

namespace Sys2Proof.Machine

/-- The entry of a table at a code is the read of the memory; the default is never taken (R24, R26). -/
theorem getD_tableOf (space : Space) (c : FlexCode) : (tableOf space).getD c.toNat 0 = memRead space c := by
  have hlt : c.toNat < (tableOf space).length := by
    rw [tableOf_length]
    exact c.isLt
  rw [memRead_eq_getElem_tableOf, List.getD_eq_getElem?_getD, List.getElem?_eq_getElem hlt, Option.getD_some]

/-- The lookup branch with the selected table written as a choice of two lists. -/
theorem lookupEmit_eq_getD (c : FlexCode) (s : State) : s.lookupEmit c =
    (let v := if s.core.isCap then romCap.getD c.toNat 0 else romLow.getD c.toNat 0
     if v = 0 then { s with ascOut := none } else emitted v s) := by
  have hcap : romCap.getD c.toNat 0 = memRead .romCap c := getD_tableOf .romCap c
  have hlow : romLow.getD c.toNat 0 = memRead .romLow c := getD_tableOf .romLow c
  rw [hcap, hlow, ← memRead_selectedSpace]
  rfl

/-- The core's bit after a DECODE: LC clears it, UC sets it, and every other code keeps it (R79). -/
theorem decodeCode_isCap (c : FlexCode) (k : CoreState) :
    (decodeCode c k).1.isCap = if c = 4 then false else if c = 8 then true else k.isCap := by
  by_cases h4 : c = 4
  · subst h4; rfl
  by_cases h8 : c = 8
  · subst h8; rfl
  rw [decodeCode_core_of_ne_shift c k h8 h4, if_neg h4, if_neg h8]

/-- The byte of a DECODE: the constant 0, nothing for a shift, and otherwise the selected entry unless it is 0 (R60). -/
theorem decodeCode_byte (c : FlexCode) (k : CoreState) :
    (decodeCode c k).2 =
      if c = 0 then some 0
      else if c = 4 ∨ c = 8 then none
      else
        let v := memRead (selectedSpace k) c
        if v = 0 then none else some v := by
  by_cases h0 : c = 0
  · subst h0; rfl
  by_cases hshift : c = 4 ∨ c = 8
  · rw [decodeCode_byte_of_shift k hshift, if_neg h0, if_pos hshift]
  obtain ⟨h4, h8⟩ := not_or.mp hshift
  simp only [decodeCode, h0, h4, h8, or_self, if_false]
  split <;> rfl

/-- A delivered decode leaves the ASCII side without a byte, or with one on the line and at the end of the stream (R78). -/
theorem deliver_ascii_cases (r : CoreState × Option AsciiByte) (s : State) :
    ((s.deliver r).ascOut = none ∧ (s.deliver r).ascStream = s.ascStream) ∨
      ∃ v, (s.deliver r).ascOut = some v ∧ (s.deliver r).ascStream = s.ascStream ++ [v] := by
  rcases r with ⟨k, _ | v⟩
  · exact .inl ⟨rfl, rfl⟩
  · exact .inr ⟨v, rfl, rfl⟩

end Sys2Proof.Machine
end

section
/-! SUPPORT. The per-code rules: what every code's encoding is (30_encoding.md R42), and the void codes of the code map
(41_decoder_control.md R65 to R77). -/

namespace Sys2Proof.Machine

/-- U maps a byte to a code exactly when the byte agrees with the code's canonical byte in bits 5 to 0 (R42). -/
theorem mem_preimages_iff_and_low_six (raw : RawByte) (c : FlexCode) :
    raw ∈ preimages c ↔ raw &&& 0x3F#8 = canonicalRaw c := by
  rw [← unscr_eq_iff_mem_preimages, unscr_eq_iff, and_low_six, canonicalRaw, zext8_injective.eq_iff]

/-- The encoding of each code: its own value in a byte, its channels at 1, and the four raw bytes U maps to it. -/
theorem codeEncoding_instrOfCode (c : FlexCode) :
    CodeEncoding (instrOfCode c) c (channelsAtOne c) (preimages c) :=
  ⟨encode_instrOfCode c, decode_code c, rfl, fun raw => unscr_eq_iff_mem_preimages raw c,
    fun raw => mem_preimages_iff_and_low_six raw c⟩

/-- The codes of class void in the code map (R41). -/
def voidCodes : List FlexCode := (codeMap.filter fun r => r.cls == .void).map fun r => r.code

/-- A void code is none of the three that DECODE tests for, and its entries are 0. -/
theorem entries_of_mem_voidCodes : ∀ c ∈ voidCodes,
    c ≠ 0 ∧ c ≠ 8 ∧ c ≠ 4 ∧ memRead .romCap c = 0 ∧ memRead .romLow c = 0 := by decide

theorem voidRule_of_mem_voidCodes {c : FlexCode} (h : c ∈ voidCodes) : VoidRule (instrOfCode c) c := by
  obtain ⟨h0, h8, h4, hcap, hlow⟩ := entries_of_mem_voidCodes c h
  refine ⟨hcap, hlow, fun s => ?_⟩
  have hzero : memRead (selectedSpace s.core) c = 0 := by
    rw [memRead_selectedSpace, hcap, hlow, ite_self]
  rw [exec_instrOfCode_of_lookup c s h0 h8 h4, lookupEmit_of_zero c s hzero, State.noEmit]

/-- Both rules of a void code. -/
theorem rules_of_mem_voidCodes {c : FlexCode} (h : c ∈ voidCodes) :
    CodeEncoding (instrOfCode c) c (channelsAtOne c) (preimages c) ∧ VoidRule (instrOfCode c) c :=
  ⟨codeEncoding_instrOfCode c, voidRule_of_mem_voidCodes h⟩

end Sys2Proof.Machine
end

section
/-! SUPPORT. RESET and the codes D handles before any lookup (41_decoder_control.md R61 to R64), and the letter code 1,
by which their rules show the core's bit. -/

namespace Sys2Proof.Machine

theorem exec_reset (s : State) :
    exec .reset s = .next { s with core := ⟨false⟩, flexOut := none, ascOut := none } := rfl

theorem exec_nul (s : State) : exec .nul s = .next (emitted 0 s) := rfl

theorem exec_lc (s : State) : exec .lc s = .next { s with core := ⟨false⟩, ascOut := none } := rfl

theorem exec_uc (s : State) : exec .uc s = .next { s with core := ⟨true⟩, ascOut := none } := rfl

theorem exec_chr01_eq_emitted (s : State) :
    exec .chr01 s = .next (emitted (if s.core.isCap then 90 else 122) s) := by
  rw [exec_chr01]
  rfl

end Sys2Proof.Machine
end

section
namespace Sys2Proof.Proofs

open Machine

/-- Settles O6: the three codes DECODE tests for by themselves, and the lookup branch for every other. -/
theorem decodeFollowsGeneralRule : Obligations.DecodeFollowsGeneralRule := by
  intro c s
  by_cases h0 : c = 0
  · subst h0; rfl
  by_cases h8 : c = 8
  · subst h8; rfl
  by_cases h4 : c = 4
  · subst h4; rfl
  rw [exec_instrOfCode_of_lookup c s h0 h8 h4, lookupEmit_eq_getD, if_neg h0, if_neg h8, if_neg h4]

/-- Settles O18: UNSCR and RESET write the state directly, and every code delivers its decode. -/
theorem shiftTransitionTable : Obligations.ShiftTransitionTable := by
  refine ⟨rfl, fun i s => ?_, fun c s => ⟨_, exec_instrOfCode c s, ?_⟩, fun s => ⟨_, exec_reset s, rfl, rfl⟩,
    fun raw s => ⟨s.emitFlex (unscr raw), rfl, rfl⟩⟩
  · rcases instr_cases i with ⟨raw, rfl⟩ | rfl | ⟨c, rfl⟩
    · exact ⟨s.emitFlex (unscr raw), rfl, by simp⟩
    · exact ⟨_, exec_reset s, rfl⟩
    · refine ⟨_, exec_instrOfCode c s, ?_⟩
      simp [decodeCode_isCap]
  · rw [deliver_ascOut, decodeCode_byte]
    rfl

/-- Settles O19: a delivered decode gives no byte or one, and the pairs are counted. -/
theorem exactlyOneResultPerDecode : Obligations.ExactlyOneResultPerDecode :=
  ⟨fun c s => ⟨_, exec_instrOfCode c s, deliver_ascii_cases ..⟩, rfl, rfl, rfl, rfl, rfl, rfl, rfl⟩

/-- Settles O7: RESET writes the power-on core, in which code 1 emits its lowercase byte. -/
theorem resetClearsShiftAndKeepsStreams : Obligations.ResetClearsShiftAndKeepsStreams :=
  ⟨fun s => ⟨exec_reset s, _, _, exec_uc s, rfl, exec_reset _, rfl, exec_chr01_eq_emitted _⟩, rfl⟩

/-- Settles O8: the encoding of code 0, and the constant byte. -/
theorem nullPassesThrough : Obligations.NullPassesThrough :=
  ⟨codeEncoding_instrOfCode 0, fun s => ⟨exec_nul s, Option.some_ne_none 0⟩⟩

/-- Settles O9: the encodings of codes 4 and 8; what a shift writes does not depend on the core before it. -/
theorem shiftCodesSetNotToggle : Obligations.ShiftCodesSetNotToggle :=
  ⟨codeEncoding_instrOfCode 4, codeEncoding_instrOfCode 8, rfl, rfl, rfl, rfl,
    fun s => ⟨exec_lc s, exec_uc s⟩,
    fun s => ⟨_, _, exec_lc s, exec_lc _, rfl⟩,
    fun s => ⟨_, _, exec_uc s, exec_uc _, rfl⟩,
    fun s => ⟨_, _, exec_uc s, exec_chr01_eq_emitted _, exec_lc _, exec_chr01_eq_emitted _⟩⟩

/-- Settles O10: each of the seven is a void code of the code map. -/
theorem voidCodesLowDoNothing : Obligations.VoidCodesLowDoNothing :=
  ⟨rules_of_mem_voidCodes (c := 28) (by decide), rules_of_mem_voidCodes (c := 36) (by decide),
    rules_of_mem_voidCodes (c := 40) (by decide), rules_of_mem_voidCodes (c := 43) (by decide),
    rules_of_mem_voidCodes (c := 44) (by decide), rules_of_mem_voidCodes (c := 47) (by decide),
    rules_of_mem_voidCodes (c := 48) (by decide)⟩

/-- Settles O11: each of the six is a void code of the code map. -/
theorem voidCodesHighDoNothing : Obligations.VoidCodesHighDoNothing :=
  ⟨rules_of_mem_voidCodes (c := 51) (by decide), rules_of_mem_voidCodes (c := 52) (by decide),
    rules_of_mem_voidCodes (c := 55) (by decide), rules_of_mem_voidCodes (c := 56) (by decide),
    rules_of_mem_voidCodes (c := 59) (by decide), rules_of_mem_voidCodes (c := 60) (by decide)⟩

end Sys2Proof.Proofs
end

section
/-! SUPPORT. The per-code rules of the printing codes (42_decoder_letters.md R80 to 44_decoder_caseless.md R127): the letter,
figure and caseless codes of the code map. -/

namespace Sys2Proof.Machine

/-- The codes of class letter, figure or caseless in the code map (R41). -/
def printingCodes : List FlexCode :=
  (codeMap.filter fun r => r.cls ∈ [.letter, .figure, .caseless]).map fun r => r.code

/-- A printing code is none of the three that DECODE tests for, and neither of its entries is 0. -/
theorem entries_of_mem_printingCodes : ∀ c ∈ printingCodes,
    c ≠ 0 ∧ c ≠ 8 ∧ c ≠ 4 ∧ memRead .romCap c ≠ 0 ∧ memRead .romLow c ≠ 0 := by decide

/-- A printing code emits the entry of the table that the core's bit selects, and does nothing else. -/
theorem exec_of_mem_printingCodes {c : FlexCode} (h : c ∈ printingCodes) (s : State) :
    exec (instrOfCode c) s =
      .next (emitted (if s.core.isCap then memRead .romCap c else memRead .romLow c) s) := by
  obtain ⟨h0, h8, h4, hcap, hlow⟩ := entries_of_mem_printingCodes c h
  have hne : memRead (selectedSpace s.core) c ≠ 0 := by
    rw [memRead_selectedSpace]
    split
    · exact hcap
    · exact hlow
  rw [exec_instrOfCode_of_lookup c s h0 h8 h4, lookupEmit_of_ne_zero c s hne, memRead_selectedSpace, State.emitAsc,
    emitted]

/-- RESET and UC fix the core's bit, hence the table that a printing code after them reads. -/
theorem printingRule_of_mem_printingCodes {c : FlexCode} (h : c ∈ printingCodes) :
    PrintingRule (instrOfCode c) c (memRead .romCap c) (memRead .romLow c) := by
  obtain ⟨-, -, -, hcap, hlow⟩ := entries_of_mem_printingCodes c h
  exact ⟨rfl, rfl, hcap, hlow, exec_of_mem_printingCodes h,
    fun s => ⟨_, exec_reset s, exec_of_mem_printingCodes h _⟩,
    fun s => ⟨_, exec_uc s, exec_of_mem_printingCodes h _⟩⟩

/-- Both rules of a printing code. -/
theorem rules_of_mem_printingCodes {c : FlexCode} (h : c ∈ printingCodes) :
    CodeEncoding (instrOfCode c) c (channelsAtOne c) (preimages c) ∧
      PrintingRule (instrOfCode c) c (memRead .romCap c) (memRead .romLow c) :=
  ⟨codeEncoding_instrOfCode c, printingRule_of_mem_printingCodes h⟩

end Sys2Proof.Machine
end

section
namespace Sys2Proof.Proofs

open Machine

/-- Settles O12: each of the nine is a printing code of the code map. -/
theorem letterCodesFirstEmit : Obligations.LetterCodesFirstEmit :=
  ⟨rules_of_mem_printingCodes (c := 1) (by decide), rules_of_mem_printingCodes (c := 5) (by decide),
    rules_of_mem_printingCodes (c := 6) (by decide), rules_of_mem_printingCodes (c := 9) (by decide),
    rules_of_mem_printingCodes (c := 13) (by decide), rules_of_mem_printingCodes (c := 17) (by decide),
    rules_of_mem_printingCodes (c := 21) (by decide), rules_of_mem_printingCodes (c := 25) (by decide),
    rules_of_mem_printingCodes (c := 29) (by decide)⟩

/-- Settles O13: each of the nine is a printing code of the code map. -/
theorem letterCodesSecondEmit : Obligations.LetterCodesSecondEmit :=
  ⟨rules_of_mem_printingCodes (c := 31) (by decide), rules_of_mem_printingCodes (c := 33) (by decide),
    rules_of_mem_printingCodes (c := 35) (by decide), rules_of_mem_printingCodes (c := 37) (by decide),
    rules_of_mem_printingCodes (c := 39) (by decide), rules_of_mem_printingCodes (c := 41) (by decide),
    rules_of_mem_printingCodes (c := 42) (by decide), rules_of_mem_printingCodes (c := 45) (by decide),
    rules_of_mem_printingCodes (c := 46) (by decide)⟩

/-- Settles O14: each of the eight is a printing code of the code map. -/
theorem letterCodesThirdEmit : Obligations.LetterCodesThirdEmit :=
  ⟨rules_of_mem_printingCodes (c := 49) (by decide), rules_of_mem_printingCodes (c := 50) (by decide),
    rules_of_mem_printingCodes (c := 53) (by decide), rules_of_mem_printingCodes (c := 54) (by decide),
    rules_of_mem_printingCodes (c := 57) (by decide), rules_of_mem_printingCodes (c := 58) (by decide),
    rules_of_mem_printingCodes (c := 61) (by decide), rules_of_mem_printingCodes (c := 62) (by decide)⟩

end Sys2Proof.Proofs
end

section
namespace Sys2Proof.Proofs

open Machine

/-- Settles O15: each of the eight is a printing code of the code map. -/
theorem figureCodesFirstEmit : Obligations.FigureCodesFirstEmit :=
  ⟨rules_of_mem_printingCodes (c := 2) (by decide), rules_of_mem_printingCodes (c := 7) (by decide),
    rules_of_mem_printingCodes (c := 10) (by decide), rules_of_mem_printingCodes (c := 11) (by decide),
    rules_of_mem_printingCodes (c := 14) (by decide), rules_of_mem_printingCodes (c := 15) (by decide),
    rules_of_mem_printingCodes (c := 18) (by decide), rules_of_mem_printingCodes (c := 19) (by decide)⟩

/-- Settles O16: each of the seven is a printing code of the code map. -/
theorem figureCodesSecondEmit : Obligations.FigureCodesSecondEmit :=
  ⟨rules_of_mem_printingCodes (c := 22) (by decide), rules_of_mem_printingCodes (c := 23) (by decide),
    rules_of_mem_printingCodes (c := 26) (by decide), rules_of_mem_printingCodes (c := 27) (by decide),
    rules_of_mem_printingCodes (c := 30) (by decide), rules_of_mem_printingCodes (c := 34) (by decide),
    rules_of_mem_printingCodes (c := 38) (by decide)⟩

end Sys2Proof.Proofs
end

section
namespace Sys2Proof.Proofs

open Machine

/-- Settles O17: each of the seven is a printing code of the code map, and the byte of its rule stands in both tables. -/
theorem caselessCodesEmit : Obligations.CaselessCodesEmit :=
  ⟨rules_of_mem_printingCodes (c := 3) (by decide), rules_of_mem_printingCodes (c := 12) (by decide),
    rules_of_mem_printingCodes (c := 16) (by decide), rules_of_mem_printingCodes (c := 20) (by decide),
    rules_of_mem_printingCodes (c := 24) (by decide), rules_of_mem_printingCodes (c := 32) (by decide),
    rules_of_mem_printingCodes (c := 63) (by decide)⟩

end Sys2Proof.Proofs
end

section
/-! SUPPORT. `STEP` as U followed by the general rule of DECODE (45_pipeline.md R130). -/

namespace Sys2Proof.Machine

/-- Delivering a decode is the general rule of R60, with the table selected by the core's bit. -/
theorem deliver_decodeCode_eq_generalRule (c : FlexCode) (s : State) :
    s.deliver (decodeCode c s.core) =
      if c = 0 then emitted 0 s
      else if c = 8 then { s with core := ⟨true⟩, ascOut := none }
      else if c = 4 then { s with core := ⟨false⟩, ascOut := none }
      else
        let v := memRead (if s.core.isCap then .romCap else .romLow) c
        if v = 0 then { s with ascOut := none } else emitted v s := by
  by_cases h0 : c = 0
  · subst h0; rfl
  by_cases h8 : c = 8
  · subst h8; rfl
  by_cases h4 : c = 4
  · subst h4; rfl
  rw [deliver_decodeCode_of_lookup c s h0 h8 h4, if_neg h0, if_neg h8, if_neg h4]
  rfl

end Sys2Proof.Machine
end

section
/-! SUPPORT. D used alone on a list of codes (45_pipeline.md R135): part after part, and how many bytes it emits
(R132). -/

namespace Sys2Proof.Machine

/-- The codes of a first part come out before those of the rest, which is decoded from the core the first part left. -/
theorem decodeCodes_append (k : CoreState) (first later : List FlexCode) :
    decodeCodes k (first ++ later) =
      ((decodeCodes k first).1 ++ (decodeCodes (decodeCodes k first).2 later).1,
        (decodeCodes (decodeCodes k first).2 later).2) := by
  induction later generalizing k first with
  | nil => rw [List.append_nil, decodeCodes, decodeCodes, List.foldl_nil, List.append_nil]
  | cons c later ih =>
    have hcons := ih (decodeCodes k first).2 [c]
    rw [List.singleton_append] at hcons
    rw [List.append_cons, ih k (first ++ [c]), decodeCodes_append_singleton, hcons, List.append_assoc]
    rfl

theorem decodeCodes_cons (k : CoreState) (c : FlexCode) (codes : List FlexCode) :
    decodeCodes k (c :: codes) =
      ((decodeCode c k).2.toList ++ (decodeCodes (decodeCode c k).1 codes).1,
        (decodeCodes (decodeCode c k).1 codes).2) :=
  decodeCodes_append k [c] codes

/-- The codes for which DECODE emits nothing: the two shifts and the void codes (R132). -/
def silentCodes : List Nat := [4, 8, 28, 36, 40, 43, 44, 47, 48, 51, 52, 55, 56, 59, 60]

/-- A silent code emits no byte and every other code emits one, in both core states. -/
theorem length_decodeCode_byte (c : FlexCode) (k : CoreState) :
    (decodeCode c k).2.toList.length = if c.toNat ∈ silentCodes then 0 else 1 := by
  have hscan : ∀ (c : FlexCode) (cap : Bool),
      (decodeCode c ⟨cap⟩).2.toList.length = if c.toNat ∈ silentCodes then 0 else 1 := by decide
  exact hscan c k.isCap

/-- The bytes that codes give and the silent ones among the codes are together as many as the codes. -/
theorem length_decodeCodes_add_silent (k : CoreState) (codes : List FlexCode) :
    (decodeCodes k codes).1.length + (codes.filter fun c => decide (c.toNat ∈ silentCodes)).length =
      codes.length := by
  induction codes generalizing k with
  | nil => rfl
  | cons c codes ih =>
    have hrest := ih (decodeCode c k).1
    rw [decodeCodes_cons, List.length_append, length_decodeCode_byte, List.length_cons]
    by_cases h : c.toNat ∈ silentCodes
    · simp only [h, if_true, List.filter_cons, decide_true, List.length_cons]
      omega
    · simp only [h, if_false, List.filter_cons, decide_false, Bool.false_eq_true]
      omega

theorem length_sessionFrom_ascii_add_silent (k : CoreState) (tape : List RawByte) :
    (sessionFrom k tape).2.1.length + (tape.filter fun raw => decide ((unscr raw).toNat ∈ silentCodes)).length =
      tape.length := by
  have hcodes := length_decodeCodes_add_silent k (tape.map unscr)
  rw [List.filter_map, List.length_map, List.length_map] at hcodes
  rw [sessionFrom_eq_decodeCodes]
  exact hcodes

/-- A session's FlexCode stream is the codes of its tape, whatever the core state (R132). -/
theorem sessionFrom_flexStream (k : CoreState) (tape : List RawByte) :
    (sessionFrom k tape).1 = tape.map fun raw => zext8 (unscr raw) := by
  rw [sessionFrom_eq_decodeCodes, List.map_map]
  rfl

/-- A session over the canonical raw bytes of some codes is D used alone on the codes (R135). -/
theorem sessionFrom_map_canonicalRaw (k : CoreState) (codes : List FlexCode) :
    (sessionFrom k (codes.map canonicalRaw)).2 = decodeCodes k codes := by
  have hcodes : (codes.map canonicalRaw).map unscr = codes := by simp [Function.comp_def]
  rw [sessionFrom_eq_decodeCodes, hcodes]

end Sys2Proof.Machine
end

section
/-! SUPPORT. Runs over pending samples (45_pipeline.md R131, R135): `RESET`, and samples that each decode one code. -/

namespace Sys2Proof.Machine

/-- In `n` steps, none of which stops the machine, it appends `flex` to the FlexCode stream and `r.1` to the ASCII
stream, and it ends with the core `r.2` and the samples `rest`. -/
def RunsTo (n : Nat) (s : State) (flex : List (BitVec 8)) (r : List AsciiByte × CoreState)
    (rest : List Sample) : Prop :=
  ∃ t : State, Sys2Proof.core.run n s = .next t ∧ t.flexStream = s.flexStream ++ flex ∧
    t.ascStream = s.ascStream ++ r.1 ∧ t.core = r.2 ∧ t.pending = rest

/-- Presented in any state, the sample decodes the code `c` and appends `flex` to the FlexCode stream. -/
def DecodesTo (sample : Sample) (c : FlexCode) (flex : List (BitVec 8)) : Prop :=
  ∀ s : State, ∃ t : State, present sample s = .next t ∧ t.flexStream = s.flexStream ++ flex ∧
    t.ascStream = s.ascStream ++ (decodeCode c s.core).2.toList ∧ t.core = (decodeCode c s.core).1 ∧
    t.pending = s.pending

/-- A code presented to D alone leaves the FlexCode stream. -/
theorem decodesTo_code (c : FlexCode) : DecodesTo (.d false true c) c [] :=
  fun s => ⟨_, present_code c s, by simp⟩

/-- A raw byte presented to the composite is decoded as U's code, which enters the FlexCode stream. -/
theorem decodesTo_raw (raw : RawByte) : DecodesTo (.composite false true raw) (unscr raw) [zext8 (unscr raw)] :=
  fun s => ⟨_, execStep_eq_deliver raw s, by simp⟩

theorem runsTo_zero (s : State) : RunsTo 0 s [] ([], s.core) s.pending :=
  ⟨s, rfl, by simp⟩

/-- One step in front of a run, with what that step appends. -/
theorem RunsTo.of_step {n : Nat} {s u : State} {flex flexStep : List (BitVec 8)} {r : List AsciiByte × CoreState}
    {ascStep : List AsciiByte} {rest : List Sample} (hrun : RunsTo n u flex r rest) (hstep : step s = .next u)
    (hflex : u.flexStream = s.flexStream ++ flexStep) (hasc : u.ascStream = s.ascStream ++ ascStep) :
    RunsTo (n + 1) s (flexStep ++ flex) (ascStep ++ r.1, r.2) rest := by
  obtain ⟨t, ht, htflex, htasc, htcore, htrest⟩ := hrun
  refine ⟨t, (run_succ_of_next n s u hstep).trans ht, ?_, ?_, htcore, htrest⟩
  · rw [htflex, hflex, List.append_assoc]
  · rw [htasc, hasc, List.append_assoc]

/-- Samples that each decode one code run as D used alone on those codes, from the present core state. -/
theorem runsTo_of_decodesTo {α : Type} {port : α → Sample} {code : α → FlexCode} {flex : α → List (BitVec 8)}
    (hport : ∀ x, DecodesTo (port x) (code x) (flex x)) (xs : List α) (rest : List Sample) (s : State)
    (h : s.pending = xs.map port ++ rest) :
    RunsTo xs.length s (xs.flatMap flex) (decodeCodes s.core (xs.map code)) rest := by
  induction xs generalizing s with
  | nil =>
    obtain rfl : s.pending = rest := h
    exact runsTo_zero s
  | cons x xs ih =>
    obtain ⟨u, hu, hflex, hasc, hcore, hpending⟩ := hport x (s.beginStep (xs.map port ++ rest))
    have hstep : step s = .next u := (step_of_cons s _ _ h).trans hu
    rw [List.map_cons, decodeCodes_cons, List.flatMap_cons]
    have hrun := ih u hpending
    rw [hcore] at hrun
    exact hrun.of_step hstep hflex hasc

/-- A step that does `RESET` appends nothing, and the run after it starts in lowercase (R61). -/
theorem RunsTo.of_reset {n : Nat} {s : State} {sample : Sample} {flex : List (BitVec 8)}
    {r : List AsciiByte × CoreState} {later rest : List Sample} (hpending : s.pending = sample :: later)
    (hreset : ∀ u, present sample u = execReset u)
    (hrun : ∀ u : State, u.core = ⟨false⟩ → u.pending = later → RunsTo n u flex r rest) :
    RunsTo (n + 1) s flex r rest :=
  (hrun _ (State.setCap_core false (s.beginStep later)) rfl).of_step (flexStep := []) (ascStep := [])
    ((step_of_cons s sample later hpending).trans (hreset _)) (List.append_nil _).symm (List.append_nil _).symm

/-- A tape with no `RESET` before it is decoded from the present core state (R159). -/
theorem runsTo_tapeSamples (tape : List RawByte) (rest : List Sample) (s : State)
    (h : s.pending = tapeSamples tape ++ rest) :
    RunsTo tape.length s (sessionFrom s.core tape).1 (sessionFrom s.core tape).2 rest := by
  have hrun := runsTo_of_decodesTo decodesTo_raw tape rest s h
  rw [← List.map_eq_flatMap] at hrun
  rw [sessionFrom_eq_decodeCodes, List.map_map]
  exact hrun

/-- `RESET` and then a tape run as the session of the tape (R131). -/
theorem runsTo_sessionSamples (tape : List RawByte) (rest : List Sample) (s : State)
    (h : s.pending = sessionSamples tape ++ rest) :
    RunsTo (tape.length + 1) s (session tape).1 (session tape).2 rest := by
  refine .of_reset h (present_rst_composite false 0) fun u hcore hpending => ?_
  rw [session, ← hcore]
  exact runsTo_tapeSamples tape rest u hpending

/-- Codes presented to D alone are decoded from the present core state, and the FlexCode stream stays (R135). -/
theorem runsTo_codes (codes : List FlexCode) (rest : List Sample) (s : State)
    (h : s.pending = codes.map (fun c => .d false true c) ++ rest) :
    RunsTo codes.length s [] (decodeCodes s.core codes) rest := by
  have hrun := runsTo_of_decodesTo decodesTo_code codes rest s h
  rw [List.map_id', List.flatMap_eq_nil_iff.mpr fun _ _ => rfl] at hrun
  exact hrun

/-- `RESET` of D and then codes presented to it alone are decoded from lowercase (R135). -/
theorem runsTo_reset_codes (codes : List FlexCode) (rest : List Sample) (s : State)
    (h : s.pending = .d true false 0 :: (codes.map (fun c => .d false true c) ++ rest)) :
    RunsTo (codes.length + 1) s [] (decodeCodes ⟨false⟩ codes) rest := by
  refine .of_reset h (present_rst_decoder false 0) fun u hcore hpending => ?_
  rw [← hcore]
  exact runsTo_codes codes rest u hpending

/-- A byte offered to D as a code is decoded up to 63 and refused above, never masked (D4). -/
theorem present_codeByte (byte : BitVec 8) (s : State) :
    present (.codeByte byte) s =
      if byte.toNat ≤ 63 then exec (instrOfCode (byte.setWidth 6)) s else .refused (.notAFlexCode byte) := by
  rw [present_of_word s rfl]
  by_cases h : byte.toNat ≤ 63
  · have hok : decode (.flex6 byte) = .ok (instrOfCode (byte.setWidth 6)) := if_pos h
    rw [runWord_of_ok _ _ s hok, if_pos h]
  · have herror : decode (.flex6 byte) = .error (.notAFlexCode byte) := if_neg h
    simp only [runWord, herror, if_neg h]

end Sys2Proof.Machine
end

section
namespace Sys2Proof.Proofs

open Machine

/-- Settles O31: STEP delivers the decode of U's code, which is the general rule; the example by evaluation. -/
theorem stepUnscramblesThenDecodes : Obligations.StepUnscramblesThenDecodes := by
  refine fun raw s => ⟨?_, zext8_toNat_le _, _, rfl, rfl, rfl, rfl, rfl⟩
  rw [execStep_eq_deliver]
  exact congrArg Host.Outcome.next
    (deliver_decodeCode_eq_generalRule (unscr raw) ((s.emitFlex (unscr raw)).appendFlex (unscr raw)))

/-- Settles O32: STEP and DECODE deliver the same decode, and U's code stands on the FlexCode line. -/
theorem stepAddsNothingOfItsOwn : Obligations.StepAddsNothingOfItsOwn :=
  fun raw s => ⟨s.emitFlex (unscr raw), _, _, rfl, exec_instrOfCode .., execStep_eq_deliver raw s, by simp⟩

/-- Settles O34: RESET, and then a sample for each byte that decodes U's code of it. -/
theorem machineRunsTheSession : Obligations.MachineRunsTheSession :=
  ⟨fun tape rest s => runsTo_sessionSamples tape rest { s with pending := sessionSamples tape ++ rest } rfl, rfl⟩

/-- Settles O35: a session is U on each byte and D used alone on the codes; the tape of one LC emits as little as the
empty tape. -/
theorem sessionOutputShape : Obligations.SessionOutputShape := by
  refine ⟨fun k tape => ⟨sessionFrom_flexStream k tape, ?_, fun b hb => ?_,
      length_sessionFrom_ascii_add_silent k tape⟩,
    fun k a b => ?_, [], [0x02#8], by decide, rfl⟩
  · rw [sessionFrom_flexStream, List.length_map]
  · rw [sessionFrom_flexStream] at hb
    obtain ⟨raw, -, rfl⟩ := List.mem_map.mp hb
    exact zext8_toNat_le _
  · simp only [sessionFrom_eq_decodeCodes, List.map_append, decodeCodes_append]

/-- Settles O36: the first session leaves the second one pending, and a session runs alike from every state. -/
theorem sessionsAreIndependent : Obligations.SessionsAreIndependent := by
  intro a b rest s
  obtain ⟨t, ht, -, -, -, hpending⟩ := runsTo_sessionSamples a (sessionSamples b ++ rest)
    { s with pending := sessionSamples a ++ (sessionSamples b ++ rest) } rfl
  obtain ⟨u, hu⟩ := runsTo_sessionSamples b rest t hpending
  exact ⟨t, u, ht, hu⟩

/-- Settles O40: after RESET both decode the same codes from lowercase; a byte offered to D is a code or refused. -/
theorem decoderAloneMatchesSession : Obligations.DecoderAloneMatchesSession := by
  refine ⟨fun codes rest s => ?_, fun byte rest s => present_codeByte byte (s.beginStep rest)⟩
  have hsession : (session (codes.map fun c => zext8 (rotr6 c))).2 = decodeCodes ⟨false⟩ codes :=
    sessionFrom_map_canonicalRaw ⟨false⟩ codes
  obtain ⟨t, ht, -, hafter⟩ := runsTo_reset_codes codes rest
    { s with pending := .d true false 0 :: (codes.map (fun c => .d false true c) ++ rest) } rfl
  rw [hsession]
  exact ⟨t, ht, hafter⟩

end Sys2Proof.Proofs
end

section
/-! SUPPORT. What answers and what is refused (60_exceptions.md R140, 92_eei_decisions.md D4), and what a step with `rst`
leaves (R143). -/

namespace Sys2Proof.Machine

/-- Every operation answers a next state (R140). -/
theorem exists_exec_next (i : Instr) (s : State) : ∃ t, exec i s = .next t := by
  rcases instr_cases i with ⟨raw, rfl⟩ | rfl | ⟨c, rfl⟩
  · exact ⟨s.emitFlex (unscr raw), rfl⟩
  · exact ⟨(s.setCap false).clearLines, rfl⟩
  · exact ⟨_, exec_instrOfCode c s⟩

/-- `STEP` of every byte answers a next state (R140). -/
theorem exists_execStep_next (raw : RawByte) (s : State) : ∃ t, execStep raw s = .next t :=
  ⟨_, execStep_eq_deliver raw s⟩

/-- A sample is answered, unless it offers D a byte above 63 as a code, which is refused by name (D4). -/
theorem present_next_or_refused (sample : Sample) (s : State) : (∃ t, present sample s = .next t) ∨
    ∃ byte, sample = .codeByte byte ∧ 63 < byte.toNat ∧ present sample s = .refused (.notAFlexCode byte) := by
  rcases sample with raw | ⟨_ | _, _ | _, c⟩ | ⟨_ | _, _ | _, raw⟩ | byte
  case u => exact .inl (exists_exec_next (.unscr raw) s)
  case d.false.false | composite.false.false => exact .inl ⟨s, rfl⟩
  case d.false.true => exact .inl ⟨_, present_code c s⟩
  case composite.false.true => exact .inl (exists_execStep_next raw s)
  case d.true.false | d.true.true | composite.true.false | composite.true.true =>
    exact .inl (exists_exec_next .reset s)
  case codeByte =>
    rw [present_codeByte]
    by_cases h : byte.toNat ≤ 63
    · rw [if_pos h]
      exact .inl (exists_exec_next _ s)
    · exact .inr ⟨byte, rfl, Nat.lt_of_not_le h, if_neg h⟩

/-- A step whose sample does `RESET` ends in lowercase with no result, appends nothing, and drops the sample (R61). -/
theorem step_of_present_eq_execReset {sample : Sample} (hreset : ∀ u, present sample u = execReset u)
    (rest : List Sample) (s : State) :
    ∃ t, step { s with pending := sample :: rest } = .next t ∧ t.core = ⟨false⟩ ∧ t.flexOut = none ∧
      t.ascOut = none ∧ t.flexStream = s.flexStream ∧ t.ascStream = s.ascStream ∧ t.pending = rest := by
  rw [step_with_pending, hreset]
  exact ⟨((s.beginStep rest).setCap false).clearLines, rfl, by simp⟩

end Sys2Proof.Machine
end

section
namespace Sys2Proof.Proofs

open Machine

/-- Settles O30: UNSCR and RESET write the state directly, a code and `STEP` deliver a decode, and no fault exists. -/
theorem operationsNeverFail : Obligations.OperationsNeverFail :=
  ⟨exists_exec_next, exists_execStep_next, nofun⟩

/-- Settles O45: an empty list is an idle step, and of the samples only a byte above 63 offered as a code is refused. -/
theorem stepStopsOnlyOnWideCodeByte : Obligations.StepStopsOnlyOnWideCodeByte := by
  intro s
  cases hs : s.pending with
  | nil => exact .inl ⟨s.beginStep [], step_of_nil s hs⟩
  | cons sample rest =>
    rw [step_of_cons s sample rest hs]
    obtain hnext | ⟨byte, rfl, hwide, hrefused⟩ := present_next_or_refused sample (s.beginStep rest)
    · exact .inl hnext
    · exact .inr ⟨byte, rest, rfl, hwide, hrefused⟩

/-- Settles O43: with `rst` the sample of either port is RESET alone, whatever symbol it carries. -/
theorem resetDiscardsTheSymbol : Obligations.ResetDiscardsTheSymbol :=
  fun rest s valid c raw =>
    ⟨step_of_present_eq_execReset (present_rst_decoder valid c) rest s,
      step_of_present_eq_execReset (present_rst_composite valid raw) rest s⟩

end Sys2Proof.Proofs
end

section
/-! SUPPORT. D used alone on codes without a shift among them (70_reset_and_hazards.md R159, R160, R162): the core stays,
so every code is decoded in the state that stands before the first. -/

namespace Sys2Proof.Machine

/-- Codes without 4 and 8 keep the core state, so each is decoded in it (R160). -/
theorem decodeCodes_of_no_shift (k : CoreState) {codes : List FlexCode} (h : ∀ c ∈ codes, c ≠ 4 ∧ c ≠ 8) :
    decodeCodes k codes = (codes.filterMap fun c => (decodeCode c k).2, k) := by
  induction codes with
  | nil => rfl
  | cons c codes ih =>
    obtain ⟨⟨h4, h8⟩, hcodes⟩ := List.forall_mem_cons.mp h
    rw [decodeCodes_cons, decodeCode_core_of_ne_shift c k h8 h4, ih hcodes, List.filterMap_cons]
    cases (decodeCode c k).2 <;> rfl

/-- A shift code emits nothing and sets the core's bit, whatever it was, for the codes after it (R160). -/
theorem decodeCodes_shift_cons (cap : Bool) (k : CoreState) (codes : List FlexCode) :
    decodeCodes k ((if cap then 8 else 4) :: codes) = decodeCodes ⟨cap⟩ codes := by
  rw [decodeCodes_cons]
  cases cap <;> rfl

/-- A run of null codes gives as many NUL bytes and keeps the core state (R162). -/
theorem decodeCodes_replicate_zero (k : CoreState) (n : Nat) :
    decodeCodes k (List.replicate n 0) = (List.replicate n 0, k) := by
  have hnull : ∀ c ∈ List.replicate n (0 : FlexCode), c ≠ 4 ∧ c ≠ 8 := by
    intro c hc
    rw [List.eq_of_mem_replicate hc]
    decide
  rw [decodeCodes_of_no_shift k hnull]
  exact congrArg (·, k) (List.filterMap_replicate_of_some rfl)

end Sys2Proof.Machine
end

section
namespace Sys2Proof.Proofs

open Machine

/-- Settles O37: a tape runs from the present core state, which bytes without a shift code keep. -/
theorem missingResetCarriesTheShift : Obligations.MissingResetCarriesTheShift := by
  refine ⟨fun tape rest s => runsTo_tapeSamples tape rest { s with pending := tapeSamples tape ++ rest } rfl,
    fun tape h => ?_⟩
  have hcodes : ∀ c ∈ tape.map unscr, c ≠ 4 ∧ c ≠ 8 := List.forall_mem_map.mpr h
  rw [sessionFrom_eq_decodeCodes, decodeCodes_of_no_shift ⟨true⟩ hcodes, List.filterMap_map]
  exact ⟨rfl, rfl⟩

/-- Settles O38: the four bytes are the preimages of the null code, so the codes of the tape are a run of zeros. -/
theorem blankTapeGivesNulBytes : Obligations.BlankTapeGivesNulBytes := by
  intro k tape h
  have hcodes : tape.map unscr = List.replicate tape.length 0 :=
    List.map_eq_replicate_iff.mpr fun raw hraw => (unscr_eq_iff_mem_preimages raw 0).mpr (h raw hraw)
  rw [sessionFrom_eq_decodeCodes, hcodes, decodeCodes_replicate_zero, List.map_replicate]
  rfl

/-- Settles O39: the shift code and the codes after it run as D used alone on them, from any core state. -/
theorem shiftLatchesUntilNextShift : Obligations.ShiftLatchesUntilNextShift := by
  intro cap codes rest s h
  obtain ⟨t, ht, hflex, hasc, hcore, hpending⟩ := runsTo_codes ((if cap then 8 else 4) :: codes) rest
    { s with pending := .d false true (if cap then 8 else 4) :: (codes.map (fun c => .d false true c) ++ rest) } rfl
  rw [decodeCodes_shift_cons, decodeCodes_of_no_shift ⟨cap⟩ h] at hasc hcore
  exact ⟨t, ht, hcore, hasc, hflex.trans (List.append_nil _), hpending⟩

end Sys2Proof.Proofs
end
